-- ==== Sys2Proof/Word.lean ====
section
/-! DEFINITION. The word types of the g8b core: bytes, 16-bit addresses and 5-bit port numbers. -/

namespace Sys2Proof

/-- A byte, the addressable unit and the width of a general register (R10, R31). -/
abbrev Byte := BitVec 8

/-- A 16-bit address, the width of the program counter and of `HL` (R11, R13, R31). -/
abbrev Addr := BitVec 16

/-- A port number 0..31, the field `opcode[5:1]` of a port opcode (R56). -/
abbrev Port := BitVec 5

end Sys2Proof
end

