-- ==== Sys2Proof/Syntax.lean ====
section
/-! DEFINITION. The syntax of the instruction set: register and flag names, the eight ALU operations, and `Instr`, one
constructor per row of spec/opcode_table.json. -/

namespace Sys2Proof

/-- The seven general registers (R10). -/
inductive Reg where
  | a | b | c | d | e | h | l
  deriving DecidableEq, Repr

/-- The four flags (R16). -/
inductive FlagName where
  | carry | zero | sign | parity
  deriving DecidableEq, Repr

/-- The eight accumulator operations, in the order of the operation field (R56). -/
inductive AluOp where
  | ad | ac | su | sb | nd | xr | or | cp
  deriving DecidableEq, Repr

/-- The instructions, one constructor per row of the opcode table, in the order of their opcodes (R57). Operands are the
literal byte (R54), the 16-bit target (R55), the port number (R56), and the bits `x` that an encoding ignores, kept so
that every opcode has its own term (log 12). -/
inductive Instr where
  /-- `0000000x` HLT: halt (R185). -/
  | hlt (x : BitVec 1)
  /-- `00000010` RLC: rotate A left (R160). -/
  | rlc
  /-- `00000100` ADI: A <- A + v, v = imm8 (R127). -/
  | adi (imm : Byte)
  /-- `00000110` LAI: A <- imm8 (R104). -/
  | lai (imm : Byte)
  /-- `00xxx111` RET: return (R180). -/
  | ret (x : BitVec 3)
  /-- `00001000` INB: B <- B + 1 (R110). -/
  | inb
  /-- `00001001` DCB: B <- B - 1 (R111). -/
  | dcb
  /-- `00001010` RRC: rotate A right (R161). -/
  | rrc
  /-- `00001100` ACI: A <- A + v + carry, v = imm8 (R130). -/
  | aci (imm : Byte)
  /-- `00001110` LBI: B <- imm8 (R104). -/
  | lbi (imm : Byte)
  /-- `00010000` INC: C <- C + 1 (R110). -/
  | inc
  /-- `00010001` DCC: C <- C - 1 (R111). -/
  | dcc
  /-- `00010010` RAL: rotate A left through carry (R162). -/
  | ral
  /-- `00010100` SUI: A <- A - v, v = imm8 (R133). -/
  | sui (imm : Byte)
  /-- `00010110` LCI: C <- imm8 (R104). -/
  | lci (imm : Byte)
  /-- `00011000` IND: D <- D + 1 (R110). -/
  | ind
  /-- `00011001` DCD: D <- D - 1 (R111). -/
  | dcd
  /-- `00011010` RAR: rotate A right through carry (R163). -/
  | rar
  /-- `00011100` SBI: A <- A - v - carry, v = imm8 (R136). -/
  | sbi (imm : Byte)
  /-- `00011110` LDI: D <- imm8 (R104). -/
  | ldi (imm : Byte)
  /-- `00100000` INE: E <- E + 1 (R110). -/
  | ine
  /-- `00100001` DCE: E <- E - 1 (R111). -/
  | dce
  /-- `00100100` NDI: A <- A and v, v = imm8 (R139). -/
  | ndi (imm : Byte)
  /-- `00100110` LEI: E <- imm8 (R104). -/
  | lei (imm : Byte)
  /-- `00101000` INH: H <- H + 1 (R110). -/
  | inh
  /-- `00101001` DCH: H <- H - 1 (R111). -/
  | dch
  /-- `00101100` XRI: A <- A xor v, v = imm8 (R142). -/
  | xri (imm : Byte)
  /-- `00101110` LHI: H <- imm8 (R104). -/
  | lhi (imm : Byte)
  /-- `00110000` INL: L <- L + 1 (R110). -/
  | inl
  /-- `00110001` DCL: L <- L - 1 (R111). -/
  | dcl
  /-- `00110100` ORI: A <- A or v, v = imm8 (R145). -/
  | ori (imm : Byte)
  /-- `00110110` LLI: L <- imm8 (R104). -/
  | lli (imm : Byte)
  /-- `00111100` CPI: compare A with v, v = imm8 (R148). -/
  | cpi (imm : Byte)
  /-- `00111110` LMI: M <- imm8 (R105). -/
  | lmi (imm : Byte)
  /-- `01000000` JFC: jump if carry is false (R174). -/
  | jfc (target : Addr)
  /-- `0100xxx1` INP: A <- port 0..7 (R186). -/
  | inp (port : Port)
  /-- `01000010` CFC: call if carry is false (R177). -/
  | cfc (target : Addr)
  /-- `01xxx100` JMP: jump (R173). -/
  | jmp (x : BitVec 3) (target : Addr)
  /-- `01xxx110` CAL: call (R176). -/
  | cal (x : BitVec 3) (target : Addr)
  /-- `01001000` JFZ: jump if zero is false (R174). -/
  | jfz (target : Addr)
  /-- `01001010` CFZ: call if zero is false (R177). -/
  | cfz (target : Addr)
  /-- `01010000` JFS: jump if sign is false (R174). -/
  | jfs (target : Addr)
  /-- `0101xxx1` OUT: port <- A (R187). -/
  | out8 (port : Port)
  /-- `01010010` CFS: call if sign is false (R177). -/
  | cfs (target : Addr)
  /-- `01011000` JFP: jump if parity is false (R174). -/
  | jfp (target : Addr)
  /-- `01011010` CFP: call if parity is false (R177). -/
  | cfp (target : Addr)
  /-- `01100000` JTC: jump if carry is true (R175). -/
  | jtc (target : Addr)
  /-- `0110xxx1` OUT: port <- A (R187). -/
  | out16 (port : Port)
  /-- `01100010` CTC: call if carry is true (R178). -/
  | ctc (target : Addr)
  /-- `01101000` JTZ: jump if zero is true (R175). -/
  | jtz (target : Addr)
  /-- `01101010` CTZ: call if zero is true (R178). -/
  | ctz (target : Addr)
  /-- `01110000` JTS: jump if sign is true (R175). -/
  | jts (target : Addr)
  /-- `0111xxx1` OUT: port <- A (R187). -/
  | out24 (port : Port)
  /-- `01110010` CTS: call if sign is true (R178). -/
  | cts (target : Addr)
  /-- `01111000` JTP: jump if parity is true (R175). -/
  | jtp (target : Addr)
  /-- `01111010` CTP: call if parity is true (R178). -/
  | ctp (target : Addr)
  /-- `10000000` ADA: A <- A + v, v = A (R125). -/
  | ada
  /-- `10000001` ADB: A <- A + v, v = B (R125). -/
  | adb
  /-- `10000010` ADC: A <- A + v, v = C (R125). -/
  | adc
  /-- `10000011` ADD: A <- A + v, v = D (R125). -/
  | add
  /-- `10000100` ADE: A <- A + v, v = E (R125). -/
  | ade
  /-- `10000101` ADH: A <- A + v, v = H (R125). -/
  | adh
  /-- `10000110` ADL: A <- A + v, v = L (R125). -/
  | adl
  /-- `10000111` ADM: A <- A + v, v = M (R126). -/
  | adm
  /-- `10001000` ACA: A <- A + v + carry, v = A (R128). -/
  | aca
  /-- `10001001` ACB: A <- A + v + carry, v = B (R128). -/
  | acb
  /-- `10001010` ACC: A <- A + v + carry, v = C (R128). -/
  | acc
  /-- `10001011` ACD: A <- A + v + carry, v = D (R128). -/
  | acd
  /-- `10001100` ACE: A <- A + v + carry, v = E (R128). -/
  | ace
  /-- `10001101` ACH: A <- A + v + carry, v = H (R128). -/
  | ach
  /-- `10001110` ACL: A <- A + v + carry, v = L (R128). -/
  | acl
  /-- `10001111` ACM: A <- A + v + carry, v = M (R129). -/
  | acm
  /-- `10010000` SUA: A <- A - v, v = A (R131). -/
  | sua
  /-- `10010001` SUB: A <- A - v, v = B (R131). -/
  | sub
  /-- `10010010` SUC: A <- A - v, v = C (R131). -/
  | suc
  /-- `10010011` SUD: A <- A - v, v = D (R131). -/
  | sud
  /-- `10010100` SUE: A <- A - v, v = E (R131). -/
  | sue
  /-- `10010101` SUH: A <- A - v, v = H (R131). -/
  | suh
  /-- `10010110` SUL: A <- A - v, v = L (R131). -/
  | sul
  /-- `10010111` SUM: A <- A - v, v = M (R132). -/
  | sum
  /-- `10011000` SBA: A <- A - v - carry, v = A (R134). -/
  | sba
  /-- `10011001` SBB: A <- A - v - carry, v = B (R134). -/
  | sbb
  /-- `10011010` SBC: A <- A - v - carry, v = C (R134). -/
  | sbc
  /-- `10011011` SBD: A <- A - v - carry, v = D (R134). -/
  | sbd
  /-- `10011100` SBE: A <- A - v - carry, v = E (R134). -/
  | sbe
  /-- `10011101` SBH: A <- A - v - carry, v = H (R134). -/
  | sbh
  /-- `10011110` SBL: A <- A - v - carry, v = L (R134). -/
  | sbl
  /-- `10011111` SBM: A <- A - v - carry, v = M (R135). -/
  | sbm
  /-- `10100000` NDA: A <- A and v, v = A (R137). -/
  | nda
  /-- `10100001` NDB: A <- A and v, v = B (R137). -/
  | ndb
  /-- `10100010` NDC: A <- A and v, v = C (R137). -/
  | ndc
  /-- `10100011` NDD: A <- A and v, v = D (R137). -/
  | ndd
  /-- `10100100` NDE: A <- A and v, v = E (R137). -/
  | nde
  /-- `10100101` NDH: A <- A and v, v = H (R137). -/
  | ndh
  /-- `10100110` NDL: A <- A and v, v = L (R137). -/
  | ndl
  /-- `10100111` NDM: A <- A and v, v = M (R138). -/
  | ndm
  /-- `10101000` XRA: A <- A xor v, v = A (R140). -/
  | xra
  /-- `10101001` XRB: A <- A xor v, v = B (R140). -/
  | xrb
  /-- `10101010` XRC: A <- A xor v, v = C (R140). -/
  | xrc
  /-- `10101011` XRD: A <- A xor v, v = D (R140). -/
  | xrd
  /-- `10101100` XRE: A <- A xor v, v = E (R140). -/
  | xre
  /-- `10101101` XRH: A <- A xor v, v = H (R140). -/
  | xrh
  /-- `10101110` XRL: A <- A xor v, v = L (R140). -/
  | xrl
  /-- `10101111` XRM: A <- A xor v, v = M (R141). -/
  | xrm
  /-- `10110000` ORA: A <- A or v, v = A (R143). -/
  | ora
  /-- `10110001` ORB: A <- A or v, v = B (R143). -/
  | orb
  /-- `10110010` ORC: A <- A or v, v = C (R143). -/
  | orc
  /-- `10110011` ORD: A <- A or v, v = D (R143). -/
  | ord
  /-- `10110100` ORE: A <- A or v, v = E (R143). -/
  | ore
  /-- `10110101` ORH: A <- A or v, v = H (R143). -/
  | orh
  /-- `10110110` ORL: A <- A or v, v = L (R143). -/
  | orl
  /-- `10110111` ORM: A <- A or v, v = M (R144). -/
  | orm
  /-- `10111000` CPA: compare A with v, v = A (R146). -/
  | cpa
  /-- `10111001` CPB: compare A with v, v = B (R146). -/
  | cpb
  /-- `10111010` CPC: compare A with v, v = C (R146). -/
  | cpc
  /-- `10111011` CPD: compare A with v, v = D (R146). -/
  | cpd
  /-- `10111100` CPE: compare A with v, v = E (R146). -/
  | cpe
  /-- `10111101` CPH: compare A with v, v = H (R146). -/
  | cph
  /-- `10111110` CPL: compare A with v, v = L (R146). -/
  | cpl
  /-- `10111111` CPM: compare A with v, v = M (R147). -/
  | cpm
  /-- `11000000` NOP: no operation (R100). -/
  | nop
  /-- `11000001` LAB: A <- B (R101). -/
  | lab
  /-- `11000010` LAC: A <- C (R101). -/
  | lac
  /-- `11000011` LAD: A <- D (R101). -/
  | lad
  /-- `11000100` LAE: A <- E (R101). -/
  | lae
  /-- `11000101` LAH: A <- H (R101). -/
  | lah
  /-- `11000110` LAL: A <- L (R101). -/
  | lal
  /-- `11000111` LAM: A <- M (R102). -/
  | lam
  /-- `11001000` LBA: B <- A (R101). -/
  | lba
  /-- `11001001` LBB: B <- B (R101). -/
  | lbb
  /-- `11001010` LBC: B <- C (R101). -/
  | lbc
  /-- `11001011` LBD: B <- D (R101). -/
  | lbd
  /-- `11001100` LBE: B <- E (R101). -/
  | lbe
  /-- `11001101` LBH: B <- H (R101). -/
  | lbh
  /-- `11001110` LBL: B <- L (R101). -/
  | lbl
  /-- `11001111` LBM: B <- M (R102). -/
  | lbm
  /-- `11010000` LCA: C <- A (R101). -/
  | lca
  /-- `11010001` LCB: C <- B (R101). -/
  | lcb
  /-- `11010010` LCC: C <- C (R101). -/
  | lcc
  /-- `11010011` LCD: C <- D (R101). -/
  | lcd
  /-- `11010100` LCE: C <- E (R101). -/
  | lce
  /-- `11010101` LCH: C <- H (R101). -/
  | lch
  /-- `11010110` LCL: C <- L (R101). -/
  | lcl
  /-- `11010111` LCM: C <- M (R102). -/
  | lcm
  /-- `11011000` LDA: D <- A (R101). -/
  | lda
  /-- `11011001` LDB: D <- B (R101). -/
  | ldb
  /-- `11011010` LDC: D <- C (R101). -/
  | ldc
  /-- `11011011` LDD: D <- D (R101). -/
  | ldd
  /-- `11011100` LDE: D <- E (R101). -/
  | lde
  /-- `11011101` LDH: D <- H (R101). -/
  | ldh
  /-- `11011110` LDL: D <- L (R101). -/
  | ldl
  /-- `11011111` LDM: D <- M (R102). -/
  | ldm
  /-- `11100000` LEA: E <- A (R101). -/
  | lea
  /-- `11100001` LEB: E <- B (R101). -/
  | leb
  /-- `11100010` LEC: E <- C (R101). -/
  | lec
  /-- `11100011` LED: E <- D (R101). -/
  | led
  /-- `11100100` LEE: E <- E (R101). -/
  | lee
  /-- `11100101` LEH: E <- H (R101). -/
  | leh
  /-- `11100110` LEL: E <- L (R101). -/
  | lel
  /-- `11100111` LEM: E <- M (R102). -/
  | lem
  /-- `11101000` LHA: H <- A (R101). -/
  | lha
  /-- `11101001` LHB: H <- B (R101). -/
  | lhb
  /-- `11101010` LHC: H <- C (R101). -/
  | lhc
  /-- `11101011` LHD: H <- D (R101). -/
  | lhd
  /-- `11101100` LHE: H <- E (R101). -/
  | lhe
  /-- `11101101` LHH: H <- H (R101). -/
  | lhh
  /-- `11101110` LHL: H <- L (R101). -/
  | lhl
  /-- `11101111` LHM: H <- M (R102). -/
  | lhm
  /-- `11110000` LLA: L <- A (R101). -/
  | lla
  /-- `11110001` LLB: L <- B (R101). -/
  | llb
  /-- `11110010` LLC: L <- C (R101). -/
  | llc
  /-- `11110011` LLD: L <- D (R101). -/
  | lld
  /-- `11110100` LLE: L <- E (R101). -/
  | lle
  /-- `11110101` LLH: L <- H (R101). -/
  | llh
  /-- `11110110` LLL: L <- L (R101). -/
  | lll
  /-- `11110111` LLM: L <- M (R102). -/
  | llm
  /-- `11111000` LMA: M <- A (R103). -/
  | lma
  /-- `11111001` LMB: M <- B (R103). -/
  | lmb
  /-- `11111010` LMC: M <- C (R103). -/
  | lmc
  /-- `11111011` LMD: M <- D (R103). -/
  | lmd
  /-- `11111100` LME: M <- E (R103). -/
  | lme
  /-- `11111101` LMH: M <- H (R103). -/
  | lmh
  /-- `11111110` LML: M <- L (R103). -/
  | lml
  /-- `11111111` HLT: halt (R185). -/
  | hltFF
  deriving DecidableEq, Repr

end Sys2Proof
end

