-- ==== Sys2Proof/WellFormed.lean ====
section
/-! DEFINITION. Which terms of `Instr` an encoding exists for. Only the port rows constrain their operand: `INP` has
ports 0..7, the three `OUT` rows ports 8..15, 16..23 and 24..31 (R56, R186, R187). -/

namespace Sys2Proof

/-- The well-formedness check of one instruction (R186, R187; every other operand field is full). -/
def Instr.wellFormed : Instr → Bool
  | .inp port => port.toNat < 8
  | .out8 port => 8 ≤ port.toNat && port.toNat < 16
  | .out16 port => 16 ≤ port.toNat && port.toNat < 24
  | .out24 port => 24 ≤ port.toNat
  | .hlt _ | .rlc | .adi _ | .lai _ | .ret _ | .inb | .dcb | .rrc | .aci _ | .lbi _ | .inc | .dcc | .ral
  | .sui _ | .lci _ | .ind | .dcd | .rar | .sbi _ | .ldi _ | .ine | .dce | .ndi _ | .lei _ | .inh | .dch
  | .xri _ | .lhi _ | .inl | .dcl | .ori _ | .lli _ | .cpi _ | .lmi _ | .jfc _ | .cfc _ | .jmp _ _ | .cal _ _
  | .jfz _ | .cfz _ | .jfs _ | .cfs _ | .jfp _ | .cfp _ | .jtc _ | .ctc _ | .jtz _ | .ctz _ | .jts _ | .cts _
  | .jtp _ | .ctp _ | .ada | .adb | .adc | .add | .ade | .adh | .adl | .adm | .aca | .acb | .acc | .acd | .ace
  | .ach | .acl | .acm | .sua | .sub | .suc | .sud | .sue | .suh | .sul | .sum | .sba | .sbb | .sbc | .sbd
  | .sbe | .sbh | .sbl | .sbm | .nda | .ndb | .ndc | .ndd | .nde | .ndh | .ndl | .ndm | .xra | .xrb | .xrc
  | .xrd | .xre | .xrh | .xrl | .xrm | .ora | .orb | .orc | .ord | .ore | .orh | .orl | .orm | .cpa | .cpb
  | .cpc | .cpd | .cpe | .cph | .cpl | .cpm | .nop | .lab | .lac | .lad | .lae | .lah | .lal | .lam | .lba
  | .lbb | .lbc | .lbd | .lbe | .lbh | .lbl | .lbm | .lca | .lcb | .lcc | .lcd | .lce | .lch | .lcl | .lcm
  | .lda | .ldb | .ldc | .ldd | .lde | .ldh | .ldl | .ldm | .lea | .leb | .lec | .led | .lee | .leh | .lel
  | .lem | .lha | .lhb | .lhc | .lhd | .lhe | .lhh | .lhl | .lhm | .lla | .llb | .llc | .lld | .lle | .llh
  | .lll | .llm | .lma | .lmb | .lmc | .lmd | .lme | .lmh | .lml | .hltFF => true

end Sys2Proof
end

