-- ==== Sys2Proof/Decode.lean ====
section
/-! DEFINITION. The decoder, from the field patterns of R52, R53, R56 and R57, and after it the encoder, from the
opcode map of spec/30_encoding.md section 5. The decoder is total on any bytes and rejects by name. -/

namespace Sys2Proof

/-! ## Byte order and opcode fields -/

/-- The 16-bit value whose low byte is `lo` and high byte `hi` (R36, R55). -/
def addrOfBytes (lo hi : Byte) : Addr := hi ++ lo

/-- Bits 7:0 of an address. -/
def lowByte (a : Addr) : Byte := a.extractLsb' 0 8

/-- Bits 15:8 of an address. -/
def highByte (a : Addr) : Byte := a.extractLsb' 8 8

/-- `g = opcode[7:6]`, the group (R52). -/
def groupField (op : Byte) : BitVec 2 := op.extractLsb' 6 2

/-- `d = opcode[5:3]` (R52). -/
def dField (op : Byte) : BitVec 3 := op.extractLsb' 3 3

/-- `s = opcode[2:0]` (R52). -/
def sField (op : Byte) : BitVec 3 := op.extractLsb' 0 3

/-- `port = opcode[5:1]` (R56). -/
def portField (op : Byte) : Port := op.extractLsb' 1 5

/-- The register a three-bit field names; `none` for 7, the memory operand M (R53). -/
def Reg.ofField (f : BitVec 3) : Option Reg :=
  match f.toNat with
  | 0 => some .a
  | 1 => some .b
  | 2 => some .c
  | 3 => some .d
  | 4 => some .e
  | 5 => some .h
  | 6 => some .l
  | _ => none

/-- The number of a register (R10, R53). -/
def Reg.number : Reg → Nat
  | .a => 0
  | .b => 1
  | .c => 2
  | .d => 3
  | .e => 4
  | .h => 5
  | .l => 6

/-- The operation an operation field names (R56). -/
def AluOp.ofField (f : BitVec 3) : AluOp :=
  match f.toNat with
  | 0 => .ad
  | 1 => .ac
  | 2 => .su
  | 3 => .sb
  | 4 => .nd
  | 5 => .xr
  | 6 => .or
  | _ => .cp

/-- The number of an operation (R56). -/
def AluOp.number : AluOp → Nat
  | .ad => 0
  | .ac => 1
  | .su => 2
  | .sb => 3
  | .nd => 4
  | .xr => 5
  | .or => 6
  | .cp => 7

/-- The flag that `opcode[4:3]` names (R56, R170). -/
def FlagName.ofField (f : BitVec 2) : FlagName :=
  match f.toNat with
  | 0 => .carry
  | 1 => .zero
  | 2 => .sign
  | _ => .parity

/-- The number of a flag (R56). -/
def FlagName.number : FlagName → Nat
  | .carry => 0
  | .zero => 1
  | .sign => 2
  | .parity => 3

/-! ## The instruction a form and its fields name (R57) -/

/-- The move `11 ddd sss` into `d` from `s`; the pair A, A is `NOP` (R57, R100, R101). -/
def moveInstr : Reg → Reg → Instr
  | .a, .a => .nop
  | .a, .b => .lab
  | .a, .c => .lac
  | .a, .d => .lad
  | .a, .e => .lae
  | .a, .h => .lah
  | .a, .l => .lal
  | .b, .a => .lba
  | .b, .b => .lbb
  | .b, .c => .lbc
  | .b, .d => .lbd
  | .b, .e => .lbe
  | .b, .h => .lbh
  | .b, .l => .lbl
  | .c, .a => .lca
  | .c, .b => .lcb
  | .c, .c => .lcc
  | .c, .d => .lcd
  | .c, .e => .lce
  | .c, .h => .lch
  | .c, .l => .lcl
  | .d, .a => .lda
  | .d, .b => .ldb
  | .d, .c => .ldc
  | .d, .d => .ldd
  | .d, .e => .lde
  | .d, .h => .ldh
  | .d, .l => .ldl
  | .e, .a => .lea
  | .e, .b => .leb
  | .e, .c => .lec
  | .e, .d => .led
  | .e, .e => .lee
  | .e, .h => .leh
  | .e, .l => .lel
  | .h, .a => .lha
  | .h, .b => .lhb
  | .h, .c => .lhc
  | .h, .d => .lhd
  | .h, .e => .lhe
  | .h, .h => .lhh
  | .h, .l => .lhl
  | .l, .a => .lla
  | .l, .b => .llb
  | .l, .c => .llc
  | .l, .d => .lld
  | .l, .e => .lle
  | .l, .h => .llh
  | .l, .l => .lll

/-- The load `11 ddd 111` of a register from M (R57, R102). -/
def loadInstr : Reg → Instr
  | .a => .lam
  | .b => .lbm
  | .c => .lcm
  | .d => .ldm
  | .e => .lem
  | .h => .lhm
  | .l => .llm

/-- The store `11 111 sss` of a register to M (R57, R103). -/
def storeInstr : Reg → Instr
  | .a => .lma
  | .b => .lmb
  | .c => .lmc
  | .d => .lmd
  | .e => .lme
  | .h => .lmh
  | .l => .lml

/-- The load immediate `00 ddd 110` of a register (R57, R104). -/
def loadImmInstr : Reg → Byte → Instr
  | .a, v => .lai v
  | .b, v => .lbi v
  | .c, v => .lci v
  | .d, v => .ldi v
  | .e, v => .lei v
  | .h, v => .lhi v
  | .l, v => .lli v

/-- The increment `00 ddd 000`; A has none, its opcode is `HLT` (R57, R110). -/
def incInstr : Reg → Option Instr
  | .a => none
  | .b => some .inb
  | .c => some .inc
  | .d => some .ind
  | .e => some .ine
  | .h => some .inh
  | .l => some .inl

/-- The decrement `00 ddd 001`; A has none, its opcode is `HLT` (R57, R111). -/
def decInstr : Reg → Option Instr
  | .a => none
  | .b => some .dcb
  | .c => some .dcc
  | .d => some .dcd
  | .e => some .dce
  | .h => some .dch
  | .l => some .dcl

/-- The ALU operation `10 ppp sss` against a register (R57). -/
def aluRegInstr : AluOp → Reg → Instr
  | .ad, .a => .ada
  | .ad, .b => .adb
  | .ad, .c => .adc
  | .ad, .d => .add
  | .ad, .e => .ade
  | .ad, .h => .adh
  | .ad, .l => .adl
  | .ac, .a => .aca
  | .ac, .b => .acb
  | .ac, .c => .acc
  | .ac, .d => .acd
  | .ac, .e => .ace
  | .ac, .h => .ach
  | .ac, .l => .acl
  | .su, .a => .sua
  | .su, .b => .sub
  | .su, .c => .suc
  | .su, .d => .sud
  | .su, .e => .sue
  | .su, .h => .suh
  | .su, .l => .sul
  | .sb, .a => .sba
  | .sb, .b => .sbb
  | .sb, .c => .sbc
  | .sb, .d => .sbd
  | .sb, .e => .sbe
  | .sb, .h => .sbh
  | .sb, .l => .sbl
  | .nd, .a => .nda
  | .nd, .b => .ndb
  | .nd, .c => .ndc
  | .nd, .d => .ndd
  | .nd, .e => .nde
  | .nd, .h => .ndh
  | .nd, .l => .ndl
  | .xr, .a => .xra
  | .xr, .b => .xrb
  | .xr, .c => .xrc
  | .xr, .d => .xrd
  | .xr, .e => .xre
  | .xr, .h => .xrh
  | .xr, .l => .xrl
  | .or, .a => .ora
  | .or, .b => .orb
  | .or, .c => .orc
  | .or, .d => .ord
  | .or, .e => .ore
  | .or, .h => .orh
  | .or, .l => .orl
  | .cp, .a => .cpa
  | .cp, .b => .cpb
  | .cp, .c => .cpc
  | .cp, .d => .cpd
  | .cp, .e => .cpe
  | .cp, .h => .cph
  | .cp, .l => .cpl

/-- The ALU operation `10 ppp 111` against M (R57). -/
def aluMemInstr : AluOp → Instr
  | .ad => .adm
  | .ac => .acm
  | .su => .sum
  | .sb => .sbm
  | .nd => .ndm
  | .xr => .xrm
  | .or => .orm
  | .cp => .cpm

/-- The ALU operation `00 ppp 100` against a literal (R57). -/
def aluImmInstr : AluOp → Byte → Instr
  | .ad, v => .adi v
  | .ac, v => .aci v
  | .su, v => .sui v
  | .sb, v => .sbi v
  | .nd, v => .ndi v
  | .xr, v => .xri v
  | .or, v => .ori v
  | .cp, v => .cpi v

/-- The conditional jump `01 scc 000` on a flag; the Boolean is the value it transfers on (R56, R57, R174, R175). -/
def jumpInstr : Bool → FlagName → Addr → Instr
  | false, .carry, t => .jfc t
  | false, .zero, t => .jfz t
  | false, .sign, t => .jfs t
  | false, .parity, t => .jfp t
  | true, .carry, t => .jtc t
  | true, .zero, t => .jtz t
  | true, .sign, t => .jts t
  | true, .parity, t => .jtp t

/-- The conditional call `01 scc 010` on a flag; the Boolean is the value it transfers on (R56, R57, R177, R178). -/
def callInstr : Bool → FlagName → Addr → Instr
  | false, .carry, t => .cfc t
  | false, .zero, t => .cfz t
  | false, .sign, t => .cfs t
  | false, .parity, t => .cfp t
  | true, .carry, t => .ctc t
  | true, .zero, t => .ctz t
  | true, .sign, t => .cts t
  | true, .parity, t => .ctp t

/-- The rotate `00 ddd 010`, `ddd` in 0..3 (R57, R160 to R164). -/
def rotateInstr (d : BitVec 3) : Option Instr :=
  match d.toNat with
  | 0 => some .rlc
  | 1 => some .rrc
  | 2 => some .ral
  | 3 => some .rar
  | _ => none

/-- The port opcode `01 rrm mm1`: input for `rr = 0`, else output (R57, R186, R187). -/
def portInstr (port : Port) : Instr :=
  match port.toNat / 8 with
  | 0 => .inp port
  | 1 => .out8 port
  | 2 => .out16 port
  | _ => .out24 port

/-! ## The decoder -/

/-- What an opcode byte selects: the format (R51) and the instruction, once its operand bytes are known. No opcode of
the default ISD selects `relative` (R62). -/
inductive OpForm where
  | implied (i : Instr)
  | immediate (mk : Byte → Instr)
  | absolute (mk : Addr → Instr)
  | relative

/-- Group 0: increments, decrements, rotates, return, immediates and halt (R52, R57). -/
def decodeGroup0 (d s : BitVec 3) : Option OpForm :=
  match s.toNat with
  | 0 => if d = 0#3 then some (.implied (.hlt 0#1)) else ((Reg.ofField d).bind incInstr).map .implied
  | 1 => if d = 0#3 then some (.implied (.hlt 1#1)) else ((Reg.ofField d).bind decInstr).map .implied
  | 2 => (rotateInstr d).map .implied
  | 4 => some (.immediate (aluImmInstr (AluOp.ofField d)))
  | 6 =>
    match Reg.ofField d with
    | some r => some (.immediate (loadImmInstr r))
    | none => some (.immediate .lmi)
  | 7 => some (.implied (.ret d))
  | _ => none

/-- Group 1: jumps, calls and ports (R52, R57). `d[1:0]` is the flag and `d[2]` the sense (R56). -/
def decodeGroup1 (d s : BitVec 3) (port : Port) : Option OpForm :=
  let flag := FlagName.ofField (d.extractLsb' 0 2)
  let sense := d.getLsbD 2
  match s.toNat with
  | 0 => some (.absolute (jumpInstr sense flag))
  | 2 => some (.absolute (callInstr sense flag))
  | 4 => some (.absolute (.jmp d))
  | 6 => some (.absolute (.cal d))
  | _ => some (.implied (portInstr port))

/-- Group 2: the ALU against a register or M (R52, R57). -/
def decodeGroup2 (d s : BitVec 3) : Option OpForm :=
  match Reg.ofField s with
  | some r => some (.implied (aluRegInstr (AluOp.ofField d) r))
  | none => some (.implied (aluMemInstr (AluOp.ofField d)))

/-- Group 3: moves, loads, stores, the no-op and one halt (R52, R57). -/
def decodeGroup3 (d s : BitVec 3) : Option OpForm :=
  match Reg.ofField d, Reg.ofField s with
  | some r1, some r2 => some (.implied (moveInstr r1 r2))
  | some r, none => some (.implied (loadInstr r))
  | none, some r => some (.implied (storeInstr r))
  | none, none => some (.implied .hltFF)

/-- The form the default table gives an opcode byte; `none` for the 22 opcodes it has no entry for (R57, R59). -/
def decodeOpcode (op : Byte) : Option OpForm :=
  match (groupField op).toNat with
  | 0 => decodeGroup0 (dField op) (sField op)
  | 1 => decodeGroup1 (dField op) (sField op) (portField op)
  | 2 => decodeGroup2 (dField op) (sField op)
  | _ => decodeGroup3 (dField op) (sField op)

/-- Why bytes do not decode. -/
inductive DecodeReject where
  /-- There is no opcode byte. -/
  | noBytes
  /-- The opcode has no entry (R59). -/
  | undefinedOpcode (op : Byte)
  /-- The entry has mode Relative, which has no meaning (R62). -/
  | relativeMode (op : Byte)
  /-- An operand byte is missing. -/
  | truncated (op : Byte)
  deriving DecidableEq, Repr

/-- The instruction of a form, its operand bytes taken from the head of a byte list, and the bytes after them (R51, R54,
R55). `op` is the opcode byte that the reasons name. -/
def decodeForm (op : Byte) : OpForm → List Byte → Except DecodeReject (Instr × List Byte)
  | .implied i, rest => .ok (i, rest)
  | .immediate mk, v :: rest => .ok (mk v, rest)
  | .immediate _, [] => .error (.truncated op)
  | .absolute mk, lo :: hi :: rest => .ok (mk (addrOfBytes lo hi), rest)
  | .absolute _, [_] => .error (.truncated op)
  | .absolute _, [] => .error (.truncated op)
  | .relative, _ => .error (.relativeMode op)

/-- Decode the instruction at the head of a byte list under the default table: the instruction and the bytes after it,
or the reason there is none (R51, R61). `decodeWith` in Machine/Isd.lean does the same under any ISD. -/
def decode : List Byte → Except DecodeReject (Instr × List Byte)
  | [] => .error .noBytes
  | op :: rest =>
    match decodeOpcode op with
    | none => .error (.undefinedOpcode op)
    | some form => decodeForm op form rest

/-- The bytes of a table word: bit 0 is the least significant bit of the first byte; the bits from `nbits` on are 0. -/
def wordBytes (nbits w : Nat) : List Byte :=
  let v := w % 2 ^ nbits
  [BitVec.ofNat 8 v, BitVec.ofNat 8 (v / 256), BitVec.ofNat 8 (v / 65536)]

/-- The instruction the decoder reads from a table word. -/
def decodeTableWord (nbits w : Nat) : Option Instr :=
  match decode (wordBytes nbits w) with
  | .ok (i, _) => some i
  | .error _ => none

/-! ## The encoder -/

/-- A three-byte instruction: the opcode, then the target low byte first (R51, R55). -/
def absoluteBytes (op : Byte) (target : Addr) : List Byte := [op, lowByte target, highByte target]

/-- The bytes of an instruction, from the opcode map (30_encoding.md section 5). Ignored bits and port numbers are
encoded where the map puts them, so every opcode with an entry is the first byte of exactly one well-formed term. -/
def encode : Instr → List Byte
  | .hlt x => [0b0000000#7 ++ x]
  | .rlc => [0x02#8]
  | .adi v => [0x04#8, v]
  | .lai v => [0x06#8, v]
  | .ret x => [0b00#2 ++ x ++ 0b111#3]
  | .inb => [0x08#8]
  | .dcb => [0x09#8]
  | .rrc => [0x0A#8]
  | .aci v => [0x0C#8, v]
  | .lbi v => [0x0E#8, v]
  | .inc => [0x10#8]
  | .dcc => [0x11#8]
  | .ral => [0x12#8]
  | .sui v => [0x14#8, v]
  | .lci v => [0x16#8, v]
  | .ind => [0x18#8]
  | .dcd => [0x19#8]
  | .rar => [0x1A#8]
  | .sbi v => [0x1C#8, v]
  | .ldi v => [0x1E#8, v]
  | .ine => [0x20#8]
  | .dce => [0x21#8]
  | .ndi v => [0x24#8, v]
  | .lei v => [0x26#8, v]
  | .inh => [0x28#8]
  | .dch => [0x29#8]
  | .xri v => [0x2C#8, v]
  | .lhi v => [0x2E#8, v]
  | .inl => [0x30#8]
  | .dcl => [0x31#8]
  | .ori v => [0x34#8, v]
  | .lli v => [0x36#8, v]
  | .cpi v => [0x3C#8, v]
  | .lmi v => [0x3E#8, v]
  | .jfc t => absoluteBytes 0x40#8 t
  | .inp port => [0b01#2 ++ port ++ 0b1#1]
  | .cfc t => absoluteBytes 0x42#8 t
  | .jmp x t => absoluteBytes (0b01#2 ++ x ++ 0b100#3) t
  | .cal x t => absoluteBytes (0b01#2 ++ x ++ 0b110#3) t
  | .jfz t => absoluteBytes 0x48#8 t
  | .cfz t => absoluteBytes 0x4A#8 t
  | .jfs t => absoluteBytes 0x50#8 t
  | .out8 port => [0b01#2 ++ port ++ 0b1#1]
  | .cfs t => absoluteBytes 0x52#8 t
  | .jfp t => absoluteBytes 0x58#8 t
  | .cfp t => absoluteBytes 0x5A#8 t
  | .jtc t => absoluteBytes 0x60#8 t
  | .out16 port => [0b01#2 ++ port ++ 0b1#1]
  | .ctc t => absoluteBytes 0x62#8 t
  | .jtz t => absoluteBytes 0x68#8 t
  | .ctz t => absoluteBytes 0x6A#8 t
  | .jts t => absoluteBytes 0x70#8 t
  | .out24 port => [0b01#2 ++ port ++ 0b1#1]
  | .cts t => absoluteBytes 0x72#8 t
  | .jtp t => absoluteBytes 0x78#8 t
  | .ctp t => absoluteBytes 0x7A#8 t
  | .ada => [0x80#8]
  | .adb => [0x81#8]
  | .adc => [0x82#8]
  | .add => [0x83#8]
  | .ade => [0x84#8]
  | .adh => [0x85#8]
  | .adl => [0x86#8]
  | .adm => [0x87#8]
  | .aca => [0x88#8]
  | .acb => [0x89#8]
  | .acc => [0x8A#8]
  | .acd => [0x8B#8]
  | .ace => [0x8C#8]
  | .ach => [0x8D#8]
  | .acl => [0x8E#8]
  | .acm => [0x8F#8]
  | .sua => [0x90#8]
  | .sub => [0x91#8]
  | .suc => [0x92#8]
  | .sud => [0x93#8]
  | .sue => [0x94#8]
  | .suh => [0x95#8]
  | .sul => [0x96#8]
  | .sum => [0x97#8]
  | .sba => [0x98#8]
  | .sbb => [0x99#8]
  | .sbc => [0x9A#8]
  | .sbd => [0x9B#8]
  | .sbe => [0x9C#8]
  | .sbh => [0x9D#8]
  | .sbl => [0x9E#8]
  | .sbm => [0x9F#8]
  | .nda => [0xA0#8]
  | .ndb => [0xA1#8]
  | .ndc => [0xA2#8]
  | .ndd => [0xA3#8]
  | .nde => [0xA4#8]
  | .ndh => [0xA5#8]
  | .ndl => [0xA6#8]
  | .ndm => [0xA7#8]
  | .xra => [0xA8#8]
  | .xrb => [0xA9#8]
  | .xrc => [0xAA#8]
  | .xrd => [0xAB#8]
  | .xre => [0xAC#8]
  | .xrh => [0xAD#8]
  | .xrl => [0xAE#8]
  | .xrm => [0xAF#8]
  | .ora => [0xB0#8]
  | .orb => [0xB1#8]
  | .orc => [0xB2#8]
  | .ord => [0xB3#8]
  | .ore => [0xB4#8]
  | .orh => [0xB5#8]
  | .orl => [0xB6#8]
  | .orm => [0xB7#8]
  | .cpa => [0xB8#8]
  | .cpb => [0xB9#8]
  | .cpc => [0xBA#8]
  | .cpd => [0xBB#8]
  | .cpe => [0xBC#8]
  | .cph => [0xBD#8]
  | .cpl => [0xBE#8]
  | .cpm => [0xBF#8]
  | .nop => [0xC0#8]
  | .lab => [0xC1#8]
  | .lac => [0xC2#8]
  | .lad => [0xC3#8]
  | .lae => [0xC4#8]
  | .lah => [0xC5#8]
  | .lal => [0xC6#8]
  | .lam => [0xC7#8]
  | .lba => [0xC8#8]
  | .lbb => [0xC9#8]
  | .lbc => [0xCA#8]
  | .lbd => [0xCB#8]
  | .lbe => [0xCC#8]
  | .lbh => [0xCD#8]
  | .lbl => [0xCE#8]
  | .lbm => [0xCF#8]
  | .lca => [0xD0#8]
  | .lcb => [0xD1#8]
  | .lcc => [0xD2#8]
  | .lcd => [0xD3#8]
  | .lce => [0xD4#8]
  | .lch => [0xD5#8]
  | .lcl => [0xD6#8]
  | .lcm => [0xD7#8]
  | .lda => [0xD8#8]
  | .ldb => [0xD9#8]
  | .ldc => [0xDA#8]
  | .ldd => [0xDB#8]
  | .lde => [0xDC#8]
  | .ldh => [0xDD#8]
  | .ldl => [0xDE#8]
  | .ldm => [0xDF#8]
  | .lea => [0xE0#8]
  | .leb => [0xE1#8]
  | .lec => [0xE2#8]
  | .led => [0xE3#8]
  | .lee => [0xE4#8]
  | .leh => [0xE5#8]
  | .lel => [0xE6#8]
  | .lem => [0xE7#8]
  | .lha => [0xE8#8]
  | .lhb => [0xE9#8]
  | .lhc => [0xEA#8]
  | .lhd => [0xEB#8]
  | .lhe => [0xEC#8]
  | .lhh => [0xED#8]
  | .lhl => [0xEE#8]
  | .lhm => [0xEF#8]
  | .lla => [0xF0#8]
  | .llb => [0xF1#8]
  | .llc => [0xF2#8]
  | .lld => [0xF3#8]
  | .lle => [0xF4#8]
  | .llh => [0xF5#8]
  | .lll => [0xF6#8]
  | .llm => [0xF7#8]
  | .lma => [0xF8#8]
  | .lmb => [0xF9#8]
  | .lmc => [0xFA#8]
  | .lmd => [0xFB#8]
  | .lme => [0xFC#8]
  | .lmh => [0xFD#8]
  | .lml => [0xFE#8]
  | .hltFF => [0xFF#8]

end Sys2Proof
end

