-- ==== Sys2Proof/Config.lean ====
section
/-! DEFINITION. The implementation parameters of R5: the records of an instruction set descriptor (ISD), an ISD as plain
data, and the parameters one engine is created with. What an ISD's rows mean, its default table and its constraints are
in Machine/Isd.lean. ORIGIN is an argument of `load` and of the assembler (R5, R272). -/

namespace Sys2Proof

/-- The addressing modes (R50, R51). `relative` is reserved (R62). -/
inductive Mode where
  | immediate | absolute | implied | relative
  deriving DecidableEq, Repr

/-- A declared cost: a number, or the parameter `CYC_COND` (R57, R285). -/
inductive Cost where
  | fixed (n : Nat)
  | cycCond
  deriving DecidableEq, Repr

/-- An `InstructionSpec` (R50). -/
structure InstructionSpec where
  /-- The opcode of the entry. -/
  opcode : Byte
  /-- Its mnemonic. -/
  mnemonic : String
  /-- Its addressing mode. -/
  mode : Mode
  /-- Its size in bytes. -/
  size : Nat
  /-- Its declared cost. -/
  cost : Cost
  /-- Which rule of files 40_ to 45_ it performs (R60, R64 (g)), named by the opcode that R57 gives that rule; not read
  in mode Relative, which performs none (log 33). -/
  rule : Byte
  deriving DecidableEq, Repr

/-- An instruction set descriptor, a table from opcode to `InstructionSpec` or `NotFound` (R5, R50), as the rows in which
it departs from the default table of R57: an entry in their place, or none (log 33). -/
structure Isd where
  rows : List (Byte × Option InstructionSpec)
  deriving DecidableEq, Repr

/-- The default ISD: the table of R57 as it stands. -/
def Isd.default : Isd := { rows := [] }

/-- The parameters one engine is created with (R5). They are fixed for the life of the engine; every `State` carries
the ones its engine was created with (log 1). -/
structure Params where
  /-- `MEM_SIZE`: addresses `0..memSize-1` exist (R5, R31). -/
  memSize : Nat
  /-- `CLOCK_RATE` in Hz, for pacing alone (R5, R284; log 20). -/
  clockRate : Rat
  /-- `ISD`: the table that the decoder of this engine reads (R5, R50, R65). -/
  isd : Isd
  /-- `IO_ADDR`: the memory address of each port (R5, D7). -/
  ioAddr : Vector Addr 32
  /-- `SP_RESET`: the stack pointer after creation (R5, D4). -/
  spReset : Byte
  /-- `CYC_COND`: the cost of a conditional jump or call (R5, D15). -/
  cycCond : Nat
  deriving DecidableEq, Repr

/-- `IO_ADDR(p) = p`, the spec's default map (R5, D7; log 5). -/
def Params.identityPorts : Vector Addr 32 := Vector.ofFn fun p => BitVec.ofNat 16 p.val

/-- The parameters of `State.reset`. DESIGN CHOICE (logs 2, 4, 5, 6, 7, 20): the whole 16-bit address space exists, the
clock rate is 1 Hz, the ISD is the default table, and the three OPEN parameters take the spec's defaults. -/
def Params.default : Params :=
  { memSize := 65536, clockRate := 1, isd := Isd.default, ioAddr := Params.identityPorts, spReset := 0x00#8,
    cycCond := 11 }

end Sys2Proof
end

