-- ==== Sys2Proof/Machine/State.lean ====
section
/-! DEFINITION. The state of one engine as plain data, its faults, and the state right after creation. -/

namespace Sys2Proof.Machine

/-- The seven general registers (R10). H and L together are the memory pointer (R11). -/
structure Regs where
  a : Byte
  b : Byte
  c : Byte
  d : Byte
  e : Byte
  h : Byte
  l : Byte
  deriving DecidableEq, Repr

/-- The four independent flags (R16). -/
structure Flags where
  cf : Bool
  zf : Bool
  sf : Bool
  pf : Bool
  deriving DecidableEq, Repr

/-- The memory array (R23, R30) as a sparse list of cells: addresses strictly rising, and no cell that holds what an
unlisted address reads as (log 10). -/
abbrev Memory := List Host.Cell

/-- The architectural state of one engine (10_state.md), beside the parameters it was created with (R5, log 1). -/
structure State where
  /-- The general registers (R10). -/
  regs : Regs
  /-- The flags (R16). -/
  flags : Flags
  /-- The program counter (R13). -/
  pc : Addr
  /-- The stack pointer, the address of a slot in page 0 (R15). -/
  sp : Byte
  /-- The memory (R23). -/
  mem : Memory
  /-- The cycle counter, unbounded (R21). -/
  cyc : Nat
  /-- The parameters of this engine; no step changes them (R5, R20). -/
  cfg : Params
  deriving DecidableEq, Repr

/-- The two faults of the engine (R240). A fault is a value handed to the host; the state stays as it was before the
step (R243, R245), so stopping here is what the spec says and is safe. -/
inductive Fault where
  /-- Raised by the decode phase of a step whose opcode has no ISD entry, or one of mode Relative (R241, R62): the
  address of the opcode byte and the byte. Safe: the spec names this stop. -/
  | decodeError (pc0 : Addr) (opcode : Byte)
  /-- Raised by any read or write at an address outside memory, `addr >= MEM_SIZE`: fetch, data, stack, port or host
  access (R242). A natural number, because `load` can report 65536 (R240, R272). Safe: the spec names this stop. -/
  | memoryBounds (addr : Nat)
  deriving DecidableEq, Repr

/-- Refusals. No instruction of this model is refused. -/
inductive Refusal where
  /-- Raised only by an arm of `exec` whose instruction has no meaning yet; no arm is left so. Safe: it stops. -/
  | notModelled (mnemonic : String)
  deriving DecidableEq, Repr

/-- The outcome of a step or of an instruction. -/
abbrev Result := Host.Outcome State Fault Refusal

/-- Creation of an engine, the machine's only reset (R26, R270, R271): every register and byte zero, every flag false,
`sp = SP_RESET`, no cycles. The spec takes these values by its decision D4 (log 3). -/
def State.create (p : Params) : State :=
  { regs := { a := 0x00#8, b := 0x00#8, c := 0x00#8, d := 0x00#8, e := 0x00#8, h := 0x00#8, l := 0x00#8 }
    flags := { cf := false, zf := false, sf := false, pf := false }
    pc := 0x0000#16
    sp := p.spReset
    mem := []
    cyc := 0
    cfg := p }

/-- The machine right after creation with the default parameters (logs 2, 4, 5, 6). -/
def State.reset : State := State.create Params.default

end Sys2Proof.Machine
end

