-- ==== Sys2Proof/Machine/Ops.lean ====
section
/-! DEFINITION. The named operations of the machine: memory, registers, flags, the stack, raising a fault, and the
frame every instruction runs in. -/

namespace Sys2Proof.Machine

/-! ## The memory list -/

/-- What an address that the list does not name reads as: the creation value of every byte (R26, log 10). -/
def Memory.unlisted : Byte := 0x00#8

/-- The canonical form: addresses strictly rising, no listed byte equal to the unlisted value. -/
abbrev Memory.wf (m : Memory) : Prop := m.Pairwise (fun c1 c2 => c1.1 < c2.1) ∧ ∀ c ∈ m, c.2 ≠ Memory.unlisted

/-- The byte at an address of the array. -/
def Memory.read : Memory → Nat → Byte
  | [], _ => Memory.unlisted
  | (b, w) :: rest, a => if a = b then w else Memory.read rest a

/-- Put a byte into the list at its place in the order. -/
def Memory.insert : Memory → Nat → Byte → Memory
  | [], a, v => [(a, v)]
  | (b, w) :: rest, a, v =>
    if a < b then (a, v) :: (b, w) :: rest
    else if a = b then (a, v) :: rest
    else (b, w) :: Memory.insert rest a v

/-- Write a byte of the array; writing the unlisted value removes the cell. -/
def Memory.write (m : Memory) (a : Nat) (v : Byte) : Memory :=
  if v = Memory.unlisted then m.filter (fun c => c.1 ≠ a) else Memory.insert m a v

/-! ## Registers and flags -/

/-- Read a general register (R7, R10). -/
def State.getReg (s : State) : Reg → Byte
  | .a => s.regs.a
  | .b => s.regs.b
  | .c => s.regs.c
  | .d => s.regs.d
  | .e => s.regs.e
  | .h => s.regs.h
  | .l => s.regs.l

/-- A register file with one register replaced. -/
def Regs.set (x : Regs) (r : Reg) (v : Byte) : Regs :=
  match r with
  | .a => { x with a := v }
  | .b => { x with b := v }
  | .c => { x with c := v }
  | .d => { x with d := v }
  | .e => { x with e := v }
  | .h => { x with h := v }
  | .l => { x with l := v }

/-- Write a general register (R7, R10). None is hardwired. -/
def State.setReg (s : State) (r : Reg) (v : Byte) : State := { s with regs := s.regs.set r v }

/-- The memory pointer `HL = H*256 + L` (R11). -/
def State.hl (s : State) : Addr := addrOfBytes s.regs.l s.regs.h

/-- Read a flag by name (R16). -/
def State.getFlag (s : State) : FlagName → Bool
  | .carry => s.flags.cf
  | .zero => s.flags.zf
  | .sign => s.flags.sf
  | .parity => s.flags.pf

/-- Write the four flags. -/
def State.setFlags (s : State) (f : Flags) : State := { s with flags := f }

/-- Write the program counter. -/
def State.setPc (s : State) (a : Addr) : State := { s with pc := a }

/-- Write the stack pointer. -/
def State.setSp (s : State) (v : Byte) : State := { s with sp := v }

/-- Replace the memory. -/
def State.setMem (s : State) (m : Memory) : State := { s with mem := m }

/-- Add a declared cost to the cycle counter (R21). -/
def State.addCycles (s : State) (n : Nat) : State := { s with cyc := s.cyc + n }

/-! ## Memory access -/

/-- `MemRead(addr, 1)`: the byte, or the bounds fault (R33). -/
def memRead (s : State) (a : Addr) : Except Fault Byte :=
  if a.toNat < s.cfg.memSize then .ok (Memory.read s.mem a.toNat) else .error (.memoryBounds a.toNat)

/-- `MemWrite(addr, 1, v)`: the state with the byte stored, or the bounds fault (R34). -/
def memWrite (s : State) (a : Addr) (v : Byte) : Except Fault State :=
  if a.toNat < s.cfg.memSize then .ok (s.setMem (Memory.write s.mem a.toNat v)) else .error (.memoryBounds a.toNat)

/-! ## The stack -/

/-- The memory address of a stack slot: page 0 (R15). -/
def slotAddr (slot : Byte) : Addr := slot.setWidth 16

/-- `Push16(v)`: both slots are checked before either is written, the high one first (R171, R35). -/
def push16 (v : Addr) (s : State) : Except Fault State :=
  let aHi := slotAddr (s.sp - 1#8)
  let aLo := slotAddr (s.sp - 2#8)
  if s.cfg.memSize ≤ aHi.toNat then .error (.memoryBounds aHi.toNat)
  else if s.cfg.memSize ≤ aLo.toNat then .error (.memoryBounds aLo.toNat)
  else
    let m1 := Memory.write s.mem aHi.toNat (highByte v)
    let m2 := Memory.write m1 aLo.toNat (lowByte v)
    .ok ((s.setMem m2).setSp (s.sp - 2#8))

/-- `Pop16()`: the popped value and the state with the stack pointer moved; both slots are checked before either is
read, the low one first; the bytes stay in memory (R172, R35). -/
def pop16 (s : State) : Except Fault (Addr × State) :=
  let aLo := slotAddr s.sp
  let aHi := slotAddr (s.sp + 1#8)
  if s.cfg.memSize ≤ aLo.toNat then .error (.memoryBounds aLo.toNat)
  else if s.cfg.memSize ≤ aHi.toNat then .error (.memoryBounds aHi.toNat)
  else
    let lo := Memory.read s.mem aLo.toNat
    let hi := Memory.read s.mem aHi.toNat
    .ok (addrOfBytes lo hi, s.setSp (s.sp + 2#8))

/-! ## Faults and the frame of an instruction -/

/-- Taking an exception. There is no trap entry: a fault transfers control nowhere, saves nothing and changes no state;
it ends the step and is returned to the host (R243, R245). There is no return from one (R247). -/
def raise (f : Fault) : Result := .fault f

/-- The execute phase (R60): `pc` past the instruction, then the operation, then the declared cost. A fault of the
operation discards everything (R243). -/
def perform (size cycles : Nat) (op : State → Except Fault State) (s : State) : Result :=
  match op (s.setPc (s.pc + BitVec.ofNat 16 size)) with
  | .ok t => .next (t.addCycles cycles)
  | .error f => raise f

/-- An Implied instruction: one byte (R51). -/
def implied (cycles : Nat) (op : State → Except Fault State) (s : State) : Result := perform 1 cycles op s

/-- An Immediate instruction: two bytes (R51). -/
def immediate (cycles : Nat) (op : State → Except Fault State) (s : State) : Result := perform 2 cycles op s

/-- An Absolute instruction: three bytes (R51). -/
def absolute (cycles : Nat) (op : State → Except Fault State) (s : State) : Result := perform 3 cycles op s

/-! ## The operations of the instruction rules

Each runs inside `perform`, so `s.pc` is the address of the next instruction. -/

/-- No operation (R100, R185). -/
def opNothing (s : State) : Except Fault State := .ok s

/-- `x[dst] <- x[src]` (R101). -/
def opMove (dst src : Reg) (s : State) : Except Fault State := .ok (s.setReg dst (s.getReg src))

/-- `x[dst] <- MemRead(addr, 1)` (R102, R186). -/
def opLoadFrom (addr : Addr) (dst : Reg) (s : State) : Except Fault State :=
  match memRead s addr with
  | .ok v => .ok (s.setReg dst v)
  | .error f => .error f

/-- `x[dst] <- MemRead(HL, 1)`, the address formed before the write (R102). -/
def opLoad (dst : Reg) (s : State) : Except Fault State := opLoadFrom s.hl dst s

/-- `MemWrite(HL, 1, x[src])` (R103). -/
def opStore (src : Reg) (s : State) : Except Fault State := memWrite s s.hl (s.getReg src)

/-- `x[dst] <- imm8` (R104). -/
def opLoadImm (dst : Reg) (v : Byte) (s : State) : Except Fault State := .ok (s.setReg dst v)

/-- `MemWrite(HL, 1, imm8)` (R105). -/
def opStoreImm (v : Byte) (s : State) : Except Fault State := memWrite s s.hl v

/-- `pc <- target` (R173). -/
def opJump (target : Addr) (s : State) : Except Fault State := .ok (s.setPc target)

/-- Transfer when the flag has the given value (R170, R174, R175). -/
def opJumpIf (flag : FlagName) (sense : Bool) (target : Addr) (s : State) : Except Fault State :=
  if s.getFlag flag = sense then opJump target s else .ok s

/-- `Push16(pc); pc <- target` (R176). -/
def opCall (target : Addr) (s : State) : Except Fault State :=
  match push16 s.pc s with
  | .ok t => .ok (t.setPc target)
  | .error f => .error f

/-- Call when the flag has the given value; otherwise no stack access at all (R170, R177, R178). -/
def opCallIf (flag : FlagName) (sense : Bool) (target : Addr) (s : State) : Except Fault State :=
  if s.getFlag flag = sense then opCall target s else .ok s

/-- `pc <- Pop16()` (R180). -/
def opReturn (s : State) : Except Fault State :=
  match pop16 s with
  | .ok (target, t) => .ok (t.setPc target)
  | .error f => .error f

/-- `IO_ADDR(port)` of this engine (R5, D7). -/
def State.ioAddr (s : State) (port : Port) : Addr := s.cfg.ioAddr[port.toNat]'(by omega)

/-- `A <- MemRead(IO_ADDR(port), 1)` (R186). -/
def opInput (port : Port) (s : State) : Except Fault State := opLoadFrom (s.ioAddr port) .a s

/-- `MemWrite(IO_ADDR(port), 1, A)` (R187). -/
def opOutput (port : Port) (s : State) : Except Fault State := memWrite s (s.ioAddr port) s.regs.a

/-! ## Placing bytes, for a program that is loaded from outside -/

/-- Store bytes from an address on, each where memory exists. -/
def State.placeBytes (s : State) : Addr → List Byte → State
  | _, [] => s
  | a, b :: rest =>
    let t := if a.toNat < s.cfg.memSize then s.setMem (Memory.write s.mem a.toNat b) else s
    State.placeBytes t (a + 1#16) rest

end Sys2Proof.Machine
end

