-- ==== Sys2Proof/Machine/Flags.lean ====
section
/-! DEFINITION. Every flag computation and the byte arithmetic of the ALU and the rotates (42_alu.md, 43_rotate.md). -/

namespace Sys2Proof.Machine

/-- The number of set bits of a byte (R17). -/
def bitCount (v : Byte) : Nat :=
  v[0].toNat + v[1].toNat + v[2].toNat + v[3].toNat + v[4].toNat + v[5].toNat + v[6].toNat + v[7].toNat

/-- `parity_even(v)`: an even number of set bits (R17). -/
def parityEven (v : Byte) : Bool := bitCount v % 2 == 0

/-- `SetZSP(r)`: zero, sign and parity from a result byte, the carry kept (R16, R122). -/
def Flags.setZSP (f : Flags) (r : Byte) : Flags :=
  { f with zf := r == 0x00#8, sf := r[7], pf := parityEven r }

/-- All four flags from a result byte and a carry (R16, R122). -/
def Flags.ofResult (r : Byte) (carry : Bool) : Flags :=
  { cf := carry, zf := r == 0x00#8, sf := r[7], pf := parityEven r }

/-- `ADD8(a, v, cin)`: the result byte and the carry out (R120). -/
def add8 (a v : Byte) (cin : Bool) : Byte × Bool :=
  let sum := a.toNat + v.toNat + cin.toNat
  (BitVec.ofNat 8 (sum % 256), sum > 255)

/-- `SUB8(a, v, bin)`: the result byte and the borrow out, the true borrow (R121; log 13). -/
def sub8 (a v : Byte) (bin : Bool) : Byte × Bool :=
  let diff : Int := (a.toNat : Int) - (v.toNat : Int) - (bin.toNat : Int)
  (BitVec.ofInt 8 diff, diff < 0)

/-- The result byte and the carry of an accumulator operation (R120, R121, R123, R124). -/
def aluResult (op : AluOp) (a v : Byte) (cf : Bool) : Byte × Bool :=
  match op with
  | .ad => add8 a v false
  | .ac => add8 a v cf
  | .su => sub8 a v false
  | .sb => sub8 a v cf
  | .nd => (a &&& v, false)
  | .xr => (a ^^^ v, false)
  | .or => (a ||| v, false)
  | .cp => sub8 a v false

/-- `RLC`: the rotated accumulator and the carry (R160). -/
def rotateLeft (a : Byte) : Byte × Bool :=
  (BitVec.ofNat 8 (a.toNat * 2 % 256 + a[7].toNat), a[7])

/-- `RRC`: the rotated accumulator and the carry (R161). -/
def rotateRight (a : Byte) : Byte × Bool :=
  (BitVec.ofNat 8 (a.toNat / 2 + 128 * a[0].toNat), a[0])

/-- `RAL`: rotate left through the carry (R162). -/
def rotateLeftCarry (a : Byte) (cf : Bool) : Byte × Bool :=
  (BitVec.ofNat 8 (a.toNat * 2 % 256 + cf.toNat), a[7])

/-- `RAR`: rotate right through the carry (R163). -/
def rotateRightCarry (a : Byte) (cf : Bool) : Byte × Bool :=
  (BitVec.ofNat 8 (a.toNat / 2 + 128 * cf.toNat), a[0])

end Sys2Proof.Machine
end

