-- ==== Sys2Proof/Machine/Operands.lean ====
section
/-! DEFINITION. The operand forms of the ALU and the operations that combine an operand with the flag rules. -/

namespace Sys2Proof.Machine

/-- The second operand of an accumulator operation: a register, the memory operand M, or the literal (R53, R54). -/
inductive Operand where
  | reg (r : Reg)
  | mem
  | imm (v : Byte)
  deriving DecidableEq, Repr

/-- Read an operand; only M can fault (R12, R33, R53, R54). -/
def readOperand (o : Operand) (s : State) : Except Fault Byte :=
  match o with
  | .reg r => .ok (s.getReg r)
  | .mem => memRead s s.hl
  | .imm v => .ok v

/-- Write the result of an accumulator operation: A, except for compare, and the four flags (R120 to R124). -/
def applyAlu (op : AluOp) (v : Byte) (s : State) : State :=
  let rc := aluResult op s.regs.a v s.flags.cf
  let t := if op = .cp then s else s.setReg .a rc.1
  t.setFlags (Flags.ofResult rc.1 rc.2)

/-- An accumulator operation with its second operand (R125 to R148). -/
def opAlu (op : AluOp) (o : Operand) (s : State) : Except Fault State :=
  match readOperand o s with
  | .ok v => .ok (applyAlu op v s)
  | .error f => .error f

/-- Add one to a register; zero, sign and parity from the result, the carry kept (R110). -/
def opIncrement (r : Reg) (s : State) : Except Fault State :=
  let v := s.getReg r + 1#8
  .ok ((s.setReg r v).setFlags (s.flags.setZSP v))

/-- Subtract one from a register; zero, sign and parity from the result, the carry kept (R111). -/
def opDecrement (r : Reg) (s : State) : Except Fault State :=
  let v := s.getReg r - 1#8
  .ok ((s.setReg r v).setFlags (s.flags.setZSP v))

/-- Write a rotated accumulator and the carry alone (R160 to R163). -/
def opRotate (rotate : Byte → Bool → Byte × Bool) (s : State) : Except Fault State :=
  let rc := rotate s.regs.a s.flags.cf
  .ok ((s.setReg .a rc.1).setFlags { s.flags with cf := rc.2 })

end Sys2Proof.Machine
end

