-- ==== Sys2Proof/Machine/Alu.lean ====
section
/-! DEFINITION. Meanings of the 72 accumulator instructions: eight operations, each against a register, M and a literal (42_alu.md). -/

namespace Sys2Proof.Machine

/-- `10000000` ADA: A <- A + v, v = A (R125). -/
def execAda (s : State) : Result := implied 5 (opAlu .ad (.reg .a)) s

/-- `10000001` ADB: A <- A + v, v = B (R125). -/
def execAdb (s : State) : Result := implied 5 (opAlu .ad (.reg .b)) s

/-- `10000010` ADC: A <- A + v, v = C (R125). -/
def execAdc (s : State) : Result := implied 5 (opAlu .ad (.reg .c)) s

/-- `10000011` ADD: A <- A + v, v = D (R125). -/
def execAdd (s : State) : Result := implied 5 (opAlu .ad (.reg .d)) s

/-- `10000100` ADE: A <- A + v, v = E (R125). -/
def execAde (s : State) : Result := implied 5 (opAlu .ad (.reg .e)) s

/-- `10000101` ADH: A <- A + v, v = H (R125). -/
def execAdh (s : State) : Result := implied 5 (opAlu .ad (.reg .h)) s

/-- `10000110` ADL: A <- A + v, v = L (R125). -/
def execAdl (s : State) : Result := implied 5 (opAlu .ad (.reg .l)) s

/-- `10000111` ADM: A <- A + v, v = M (R126). -/
def execAdm (s : State) : Result := implied 8 (opAlu .ad .mem) s

/-- `00000100` ADI: A <- A + v, v = imm8 (R127). -/
def execAdi (imm : Byte) (s : State) : Result := immediate 8 (opAlu .ad (.imm imm)) s

/-- `10001000` ACA: A <- A + v + carry, v = A (R128). -/
def execAca (s : State) : Result := implied 5 (opAlu .ac (.reg .a)) s

/-- `10001001` ACB: A <- A + v + carry, v = B (R128). -/
def execAcb (s : State) : Result := implied 5 (opAlu .ac (.reg .b)) s

/-- `10001010` ACC: A <- A + v + carry, v = C (R128). -/
def execAcc (s : State) : Result := implied 5 (opAlu .ac (.reg .c)) s

/-- `10001011` ACD: A <- A + v + carry, v = D (R128). -/
def execAcd (s : State) : Result := implied 5 (opAlu .ac (.reg .d)) s

/-- `10001100` ACE: A <- A + v + carry, v = E (R128). -/
def execAce (s : State) : Result := implied 5 (opAlu .ac (.reg .e)) s

/-- `10001101` ACH: A <- A + v + carry, v = H (R128). -/
def execAch (s : State) : Result := implied 5 (opAlu .ac (.reg .h)) s

/-- `10001110` ACL: A <- A + v + carry, v = L (R128). -/
def execAcl (s : State) : Result := implied 5 (opAlu .ac (.reg .l)) s

/-- `10001111` ACM: A <- A + v + carry, v = M (R129). -/
def execAcm (s : State) : Result := implied 8 (opAlu .ac .mem) s

/-- `00001100` ACI: A <- A + v + carry, v = imm8 (R130). -/
def execAci (imm : Byte) (s : State) : Result := immediate 8 (opAlu .ac (.imm imm)) s

/-- `10010000` SUA: A <- A - v, v = A (R131). -/
def execSua (s : State) : Result := implied 5 (opAlu .su (.reg .a)) s

/-- `10010001` SUB: A <- A - v, v = B (R131). -/
def execSub (s : State) : Result := implied 5 (opAlu .su (.reg .b)) s

/-- `10010010` SUC: A <- A - v, v = C (R131). -/
def execSuc (s : State) : Result := implied 5 (opAlu .su (.reg .c)) s

/-- `10010011` SUD: A <- A - v, v = D (R131). -/
def execSud (s : State) : Result := implied 5 (opAlu .su (.reg .d)) s

/-- `10010100` SUE: A <- A - v, v = E (R131). -/
def execSue (s : State) : Result := implied 5 (opAlu .su (.reg .e)) s

/-- `10010101` SUH: A <- A - v, v = H (R131). -/
def execSuh (s : State) : Result := implied 5 (opAlu .su (.reg .h)) s

/-- `10010110` SUL: A <- A - v, v = L (R131). -/
def execSul (s : State) : Result := implied 5 (opAlu .su (.reg .l)) s

/-- `10010111` SUM: A <- A - v, v = M (R132). -/
def execSum (s : State) : Result := implied 8 (opAlu .su .mem) s

/-- `00010100` SUI: A <- A - v, v = imm8 (R133). -/
def execSui (imm : Byte) (s : State) : Result := immediate 8 (opAlu .su (.imm imm)) s

/-- `10011000` SBA: A <- A - v - carry, v = A (R134). -/
def execSba (s : State) : Result := implied 5 (opAlu .sb (.reg .a)) s

/-- `10011001` SBB: A <- A - v - carry, v = B (R134). -/
def execSbb (s : State) : Result := implied 5 (opAlu .sb (.reg .b)) s

/-- `10011010` SBC: A <- A - v - carry, v = C (R134). -/
def execSbc (s : State) : Result := implied 5 (opAlu .sb (.reg .c)) s

/-- `10011011` SBD: A <- A - v - carry, v = D (R134). -/
def execSbd (s : State) : Result := implied 5 (opAlu .sb (.reg .d)) s

/-- `10011100` SBE: A <- A - v - carry, v = E (R134). -/
def execSbe (s : State) : Result := implied 5 (opAlu .sb (.reg .e)) s

/-- `10011101` SBH: A <- A - v - carry, v = H (R134). -/
def execSbh (s : State) : Result := implied 5 (opAlu .sb (.reg .h)) s

/-- `10011110` SBL: A <- A - v - carry, v = L (R134). -/
def execSbl (s : State) : Result := implied 5 (opAlu .sb (.reg .l)) s

/-- `10011111` SBM: A <- A - v - carry, v = M (R135). -/
def execSbm (s : State) : Result := implied 8 (opAlu .sb .mem) s

/-- `00011100` SBI: A <- A - v - carry, v = imm8 (R136). -/
def execSbi (imm : Byte) (s : State) : Result := immediate 8 (opAlu .sb (.imm imm)) s

/-- `10100000` NDA: A <- A and v, v = A (R137). -/
def execNda (s : State) : Result := implied 5 (opAlu .nd (.reg .a)) s

/-- `10100001` NDB: A <- A and v, v = B (R137). -/
def execNdb (s : State) : Result := implied 5 (opAlu .nd (.reg .b)) s

/-- `10100010` NDC: A <- A and v, v = C (R137). -/
def execNdc (s : State) : Result := implied 5 (opAlu .nd (.reg .c)) s

/-- `10100011` NDD: A <- A and v, v = D (R137). -/
def execNdd (s : State) : Result := implied 5 (opAlu .nd (.reg .d)) s

/-- `10100100` NDE: A <- A and v, v = E (R137). -/
def execNde (s : State) : Result := implied 5 (opAlu .nd (.reg .e)) s

/-- `10100101` NDH: A <- A and v, v = H (R137). -/
def execNdh (s : State) : Result := implied 5 (opAlu .nd (.reg .h)) s

/-- `10100110` NDL: A <- A and v, v = L (R137). -/
def execNdl (s : State) : Result := implied 5 (opAlu .nd (.reg .l)) s

/-- `10100111` NDM: A <- A and v, v = M (R138). -/
def execNdm (s : State) : Result := implied 8 (opAlu .nd .mem) s

/-- `00100100` NDI: A <- A and v, v = imm8 (R139). -/
def execNdi (imm : Byte) (s : State) : Result := immediate 8 (opAlu .nd (.imm imm)) s

/-- `10101000` XRA: A <- A xor v, v = A (R140). -/
def execXra (s : State) : Result := implied 5 (opAlu .xr (.reg .a)) s

/-- `10101001` XRB: A <- A xor v, v = B (R140). -/
def execXrb (s : State) : Result := implied 5 (opAlu .xr (.reg .b)) s

/-- `10101010` XRC: A <- A xor v, v = C (R140). -/
def execXrc (s : State) : Result := implied 5 (opAlu .xr (.reg .c)) s

/-- `10101011` XRD: A <- A xor v, v = D (R140). -/
def execXrd (s : State) : Result := implied 5 (opAlu .xr (.reg .d)) s

/-- `10101100` XRE: A <- A xor v, v = E (R140). -/
def execXre (s : State) : Result := implied 5 (opAlu .xr (.reg .e)) s

/-- `10101101` XRH: A <- A xor v, v = H (R140). -/
def execXrh (s : State) : Result := implied 5 (opAlu .xr (.reg .h)) s

/-- `10101110` XRL: A <- A xor v, v = L (R140). -/
def execXrl (s : State) : Result := implied 5 (opAlu .xr (.reg .l)) s

/-- `10101111` XRM: A <- A xor v, v = M (R141). -/
def execXrm (s : State) : Result := implied 8 (opAlu .xr .mem) s

/-- `00101100` XRI: A <- A xor v, v = imm8 (R142). -/
def execXri (imm : Byte) (s : State) : Result := immediate 8 (opAlu .xr (.imm imm)) s

/-- `10110000` ORA: A <- A or v, v = A (R143). -/
def execOra (s : State) : Result := implied 5 (opAlu .or (.reg .a)) s

/-- `10110001` ORB: A <- A or v, v = B (R143). -/
def execOrb (s : State) : Result := implied 5 (opAlu .or (.reg .b)) s

/-- `10110010` ORC: A <- A or v, v = C (R143). -/
def execOrc (s : State) : Result := implied 5 (opAlu .or (.reg .c)) s

/-- `10110011` ORD: A <- A or v, v = D (R143). -/
def execOrd (s : State) : Result := implied 5 (opAlu .or (.reg .d)) s

/-- `10110100` ORE: A <- A or v, v = E (R143). -/
def execOre (s : State) : Result := implied 5 (opAlu .or (.reg .e)) s

/-- `10110101` ORH: A <- A or v, v = H (R143). -/
def execOrh (s : State) : Result := implied 5 (opAlu .or (.reg .h)) s

/-- `10110110` ORL: A <- A or v, v = L (R143). -/
def execOrl (s : State) : Result := implied 5 (opAlu .or (.reg .l)) s

/-- `10110111` ORM: A <- A or v, v = M (R144). -/
def execOrm (s : State) : Result := implied 8 (opAlu .or .mem) s

/-- `00110100` ORI: A <- A or v, v = imm8 (R145). -/
def execOri (imm : Byte) (s : State) : Result := immediate 8 (opAlu .or (.imm imm)) s

/-- `10111000` CPA: compare A with v, v = A (R146). -/
def execCpa (s : State) : Result := implied 5 (opAlu .cp (.reg .a)) s

/-- `10111001` CPB: compare A with v, v = B (R146). -/
def execCpb (s : State) : Result := implied 5 (opAlu .cp (.reg .b)) s

/-- `10111010` CPC: compare A with v, v = C (R146). -/
def execCpc (s : State) : Result := implied 5 (opAlu .cp (.reg .c)) s

/-- `10111011` CPD: compare A with v, v = D (R146). -/
def execCpd (s : State) : Result := implied 5 (opAlu .cp (.reg .d)) s

/-- `10111100` CPE: compare A with v, v = E (R146). -/
def execCpe (s : State) : Result := implied 5 (opAlu .cp (.reg .e)) s

/-- `10111101` CPH: compare A with v, v = H (R146). -/
def execCph (s : State) : Result := implied 5 (opAlu .cp (.reg .h)) s

/-- `10111110` CPL: compare A with v, v = L (R146). -/
def execCpl (s : State) : Result := implied 5 (opAlu .cp (.reg .l)) s

/-- `10111111` CPM: compare A with v, v = M (R147). -/
def execCpm (s : State) : Result := implied 8 (opAlu .cp .mem) s

/-- `00111100` CPI: compare A with v, v = imm8 (R148). -/
def execCpi (imm : Byte) (s : State) : Result := immediate 8 (opAlu .cp (.imm imm)) s

end Sys2Proof.Machine
end

