-- ==== Sys2Proof/Machine/Control.lean ====
section
/-! DEFINITION. Meanings of the jumps, the calls and the return (44_control.md). -/

namespace Sys2Proof.Machine

/-- `01xxx100` JMP: jump (R173). -/
def execJmp (_x : BitVec 3) (target : Addr) (s : State) : Result := absolute 11 (opJump target) s

/-- `01000000` JFC: jump if carry is false (R174). -/
def execJfc (target : Addr) (s : State) : Result := absolute s.cfg.cycCond (opJumpIf .carry false target) s

/-- `01001000` JFZ: jump if zero is false (R174). -/
def execJfz (target : Addr) (s : State) : Result := absolute s.cfg.cycCond (opJumpIf .zero false target) s

/-- `01010000` JFS: jump if sign is false (R174). -/
def execJfs (target : Addr) (s : State) : Result := absolute s.cfg.cycCond (opJumpIf .sign false target) s

/-- `01011000` JFP: jump if parity is false (R174). -/
def execJfp (target : Addr) (s : State) : Result := absolute s.cfg.cycCond (opJumpIf .parity false target) s

/-- `01100000` JTC: jump if carry is true (R175). -/
def execJtc (target : Addr) (s : State) : Result := absolute s.cfg.cycCond (opJumpIf .carry true target) s

/-- `01101000` JTZ: jump if zero is true (R175). -/
def execJtz (target : Addr) (s : State) : Result := absolute s.cfg.cycCond (opJumpIf .zero true target) s

/-- `01110000` JTS: jump if sign is true (R175). -/
def execJts (target : Addr) (s : State) : Result := absolute s.cfg.cycCond (opJumpIf .sign true target) s

/-- `01111000` JTP: jump if parity is true (R175). -/
def execJtp (target : Addr) (s : State) : Result := absolute s.cfg.cycCond (opJumpIf .parity true target) s

/-- `01xxx110` CAL: call (R176). -/
def execCal (_x : BitVec 3) (target : Addr) (s : State) : Result := absolute 11 (opCall target) s

/-- `01000010` CFC: call if carry is false (R177). -/
def execCfc (target : Addr) (s : State) : Result := absolute s.cfg.cycCond (opCallIf .carry false target) s

/-- `01001010` CFZ: call if zero is false (R177). -/
def execCfz (target : Addr) (s : State) : Result := absolute s.cfg.cycCond (opCallIf .zero false target) s

/-- `01010010` CFS: call if sign is false (R177). -/
def execCfs (target : Addr) (s : State) : Result := absolute s.cfg.cycCond (opCallIf .sign false target) s

/-- `01011010` CFP: call if parity is false (R177). -/
def execCfp (target : Addr) (s : State) : Result := absolute s.cfg.cycCond (opCallIf .parity false target) s

/-- `01100010` CTC: call if carry is true (R178). -/
def execCtc (target : Addr) (s : State) : Result := absolute s.cfg.cycCond (opCallIf .carry true target) s

/-- `01101010` CTZ: call if zero is true (R178). -/
def execCtz (target : Addr) (s : State) : Result := absolute s.cfg.cycCond (opCallIf .zero true target) s

/-- `01110010` CTS: call if sign is true (R178). -/
def execCts (target : Addr) (s : State) : Result := absolute s.cfg.cycCond (opCallIf .sign true target) s

/-- `01111010` CTP: call if parity is true (R178). -/
def execCtp (target : Addr) (s : State) : Result := absolute s.cfg.cycCond (opCallIf .parity true target) s

/-- `00xxx111` RET: return (R180). -/
def execRet (_x : BitVec 3) (s : State) : Result := implied 5 opReturn s

end Sys2Proof.Machine
end

