-- ==== Sys2Proof/Machine/HaltIo.lean ====
section
/-! DEFINITION. Meanings of halt and the port instructions (45_halt_io.md). That a halt ends a run is the signal of the step, `Instr.halts` (R185, R273), not a state change (log 8). -/

namespace Sys2Proof.Machine

/-- `0000000x` HLT: halt (R185). -/
def execHlt (_x : BitVec 1) (s : State) : Result := implied 4 opNothing s

/-- `11111111` HLT: halt (R185). -/
def execHltFF (s : State) : Result := implied 4 opNothing s

/-- `0100xxx1` INP: A <- port 0..7 (R186). -/
def execInp (port : Port) (s : State) : Result := implied 8 (opInput port) s

/-- `0101xxx1` OUT: port <- A (R187). -/
def execOut8 (port : Port) (s : State) : Result := implied 6 (opOutput port) s

/-- `0110xxx1` OUT: port <- A (R187). -/
def execOut16 (port : Port) (s : State) : Result := implied 6 (opOutput port) s

/-- `0111xxx1` OUT: port <- A (R187). -/
def execOut24 (port : Port) (s : State) : Result := implied 6 (opOutput port) s

end Sys2Proof.Machine
end

