-- ==== Sys2Proof/Machine/IncDec.lean ====
section
/-! DEFINITION. Meanings of the increments and decrements (41_inc_dec.md). -/

namespace Sys2Proof.Machine

/-- `00001000` INB: B <- B + 1 (R110). -/
def execInb (s : State) : Result := implied 5 (opIncrement .b) s

/-- `00010000` INC: C <- C + 1 (R110). -/
def execInc (s : State) : Result := implied 5 (opIncrement .c) s

/-- `00011000` IND: D <- D + 1 (R110). -/
def execInd (s : State) : Result := implied 5 (opIncrement .d) s

/-- `00100000` INE: E <- E + 1 (R110). -/
def execIne (s : State) : Result := implied 5 (opIncrement .e) s

/-- `00101000` INH: H <- H + 1 (R110). -/
def execInh (s : State) : Result := implied 5 (opIncrement .h) s

/-- `00110000` INL: L <- L + 1 (R110). -/
def execInl (s : State) : Result := implied 5 (opIncrement .l) s

/-- `00001001` DCB: B <- B - 1 (R111). -/
def execDcb (s : State) : Result := implied 5 (opDecrement .b) s

/-- `00010001` DCC: C <- C - 1 (R111). -/
def execDcc (s : State) : Result := implied 5 (opDecrement .c) s

/-- `00011001` DCD: D <- D - 1 (R111). -/
def execDcd (s : State) : Result := implied 5 (opDecrement .d) s

/-- `00100001` DCE: E <- E - 1 (R111). -/
def execDce (s : State) : Result := implied 5 (opDecrement .e) s

/-- `00101001` DCH: H <- H - 1 (R111). -/
def execDch (s : State) : Result := implied 5 (opDecrement .h) s

/-- `00110001` DCL: L <- L - 1 (R111). -/
def execDcl (s : State) : Result := implied 5 (opDecrement .l) s

end Sys2Proof.Machine
end

