-- ==== Sys2Proof/Machine/LoadMove.lean ====
section
/-! DEFINITION. Meanings of the no-op, the moves, the loads and stores and the load immediates (40_load_move.md). -/

namespace Sys2Proof.Machine

/-- `11000000` NOP: no operation (R100). -/
def execNop (s : State) : Result := implied 5 opNothing s

/-- `11000001` LAB: A <- B (R101). -/
def execLab (s : State) : Result := implied 5 (opMove .a .b) s

/-- `11000010` LAC: A <- C (R101). -/
def execLac (s : State) : Result := implied 5 (opMove .a .c) s

/-- `11000011` LAD: A <- D (R101). -/
def execLad (s : State) : Result := implied 5 (opMove .a .d) s

/-- `11000100` LAE: A <- E (R101). -/
def execLae (s : State) : Result := implied 5 (opMove .a .e) s

/-- `11000101` LAH: A <- H (R101). -/
def execLah (s : State) : Result := implied 5 (opMove .a .h) s

/-- `11000110` LAL: A <- L (R101). -/
def execLal (s : State) : Result := implied 5 (opMove .a .l) s

/-- `11001000` LBA: B <- A (R101). -/
def execLba (s : State) : Result := implied 5 (opMove .b .a) s

/-- `11001001` LBB: B <- B (R101). -/
def execLbb (s : State) : Result := implied 5 (opMove .b .b) s

/-- `11001010` LBC: B <- C (R101). -/
def execLbc (s : State) : Result := implied 5 (opMove .b .c) s

/-- `11001011` LBD: B <- D (R101). -/
def execLbd (s : State) : Result := implied 5 (opMove .b .d) s

/-- `11001100` LBE: B <- E (R101). -/
def execLbe (s : State) : Result := implied 5 (opMove .b .e) s

/-- `11001101` LBH: B <- H (R101). -/
def execLbh (s : State) : Result := implied 5 (opMove .b .h) s

/-- `11001110` LBL: B <- L (R101). -/
def execLbl (s : State) : Result := implied 5 (opMove .b .l) s

/-- `11010000` LCA: C <- A (R101). -/
def execLca (s : State) : Result := implied 5 (opMove .c .a) s

/-- `11010001` LCB: C <- B (R101). -/
def execLcb (s : State) : Result := implied 5 (opMove .c .b) s

/-- `11010010` LCC: C <- C (R101). -/
def execLcc (s : State) : Result := implied 5 (opMove .c .c) s

/-- `11010011` LCD: C <- D (R101). -/
def execLcd (s : State) : Result := implied 5 (opMove .c .d) s

/-- `11010100` LCE: C <- E (R101). -/
def execLce (s : State) : Result := implied 5 (opMove .c .e) s

/-- `11010101` LCH: C <- H (R101). -/
def execLch (s : State) : Result := implied 5 (opMove .c .h) s

/-- `11010110` LCL: C <- L (R101). -/
def execLcl (s : State) : Result := implied 5 (opMove .c .l) s

/-- `11011000` LDA: D <- A (R101). -/
def execLda (s : State) : Result := implied 5 (opMove .d .a) s

/-- `11011001` LDB: D <- B (R101). -/
def execLdb (s : State) : Result := implied 5 (opMove .d .b) s

/-- `11011010` LDC: D <- C (R101). -/
def execLdc (s : State) : Result := implied 5 (opMove .d .c) s

/-- `11011011` LDD: D <- D (R101). -/
def execLdd (s : State) : Result := implied 5 (opMove .d .d) s

/-- `11011100` LDE: D <- E (R101). -/
def execLde (s : State) : Result := implied 5 (opMove .d .e) s

/-- `11011101` LDH: D <- H (R101). -/
def execLdh (s : State) : Result := implied 5 (opMove .d .h) s

/-- `11011110` LDL: D <- L (R101). -/
def execLdl (s : State) : Result := implied 5 (opMove .d .l) s

/-- `11100000` LEA: E <- A (R101). -/
def execLea (s : State) : Result := implied 5 (opMove .e .a) s

/-- `11100001` LEB: E <- B (R101). -/
def execLeb (s : State) : Result := implied 5 (opMove .e .b) s

/-- `11100010` LEC: E <- C (R101). -/
def execLec (s : State) : Result := implied 5 (opMove .e .c) s

/-- `11100011` LED: E <- D (R101). -/
def execLed (s : State) : Result := implied 5 (opMove .e .d) s

/-- `11100100` LEE: E <- E (R101). -/
def execLee (s : State) : Result := implied 5 (opMove .e .e) s

/-- `11100101` LEH: E <- H (R101). -/
def execLeh (s : State) : Result := implied 5 (opMove .e .h) s

/-- `11100110` LEL: E <- L (R101). -/
def execLel (s : State) : Result := implied 5 (opMove .e .l) s

/-- `11101000` LHA: H <- A (R101). -/
def execLha (s : State) : Result := implied 5 (opMove .h .a) s

/-- `11101001` LHB: H <- B (R101). -/
def execLhb (s : State) : Result := implied 5 (opMove .h .b) s

/-- `11101010` LHC: H <- C (R101). -/
def execLhc (s : State) : Result := implied 5 (opMove .h .c) s

/-- `11101011` LHD: H <- D (R101). -/
def execLhd (s : State) : Result := implied 5 (opMove .h .d) s

/-- `11101100` LHE: H <- E (R101). -/
def execLhe (s : State) : Result := implied 5 (opMove .h .e) s

/-- `11101101` LHH: H <- H (R101). -/
def execLhh (s : State) : Result := implied 5 (opMove .h .h) s

/-- `11101110` LHL: H <- L (R101). -/
def execLhl (s : State) : Result := implied 5 (opMove .h .l) s

/-- `11110000` LLA: L <- A (R101). -/
def execLla (s : State) : Result := implied 5 (opMove .l .a) s

/-- `11110001` LLB: L <- B (R101). -/
def execLlb (s : State) : Result := implied 5 (opMove .l .b) s

/-- `11110010` LLC: L <- C (R101). -/
def execLlc (s : State) : Result := implied 5 (opMove .l .c) s

/-- `11110011` LLD: L <- D (R101). -/
def execLld (s : State) : Result := implied 5 (opMove .l .d) s

/-- `11110100` LLE: L <- E (R101). -/
def execLle (s : State) : Result := implied 5 (opMove .l .e) s

/-- `11110101` LLH: L <- H (R101). -/
def execLlh (s : State) : Result := implied 5 (opMove .l .h) s

/-- `11110110` LLL: L <- L (R101). -/
def execLll (s : State) : Result := implied 5 (opMove .l .l) s

/-- `11000111` LAM: A <- M (R102). -/
def execLam (s : State) : Result := implied 8 (opLoad .a) s

/-- `11001111` LBM: B <- M (R102). -/
def execLbm (s : State) : Result := implied 8 (opLoad .b) s

/-- `11010111` LCM: C <- M (R102). -/
def execLcm (s : State) : Result := implied 8 (opLoad .c) s

/-- `11011111` LDM: D <- M (R102). -/
def execLdm (s : State) : Result := implied 8 (opLoad .d) s

/-- `11100111` LEM: E <- M (R102). -/
def execLem (s : State) : Result := implied 8 (opLoad .e) s

/-- `11101111` LHM: H <- M (R102). -/
def execLhm (s : State) : Result := implied 8 (opLoad .h) s

/-- `11110111` LLM: L <- M (R102). -/
def execLlm (s : State) : Result := implied 8 (opLoad .l) s

/-- `11111000` LMA: M <- A (R103). -/
def execLma (s : State) : Result := implied 7 (opStore .a) s

/-- `11111001` LMB: M <- B (R103). -/
def execLmb (s : State) : Result := implied 7 (opStore .b) s

/-- `11111010` LMC: M <- C (R103). -/
def execLmc (s : State) : Result := implied 7 (opStore .c) s

/-- `11111011` LMD: M <- D (R103). -/
def execLmd (s : State) : Result := implied 7 (opStore .d) s

/-- `11111100` LME: M <- E (R103). -/
def execLme (s : State) : Result := implied 7 (opStore .e) s

/-- `11111101` LMH: M <- H (R103). -/
def execLmh (s : State) : Result := implied 7 (opStore .h) s

/-- `11111110` LML: M <- L (R103). -/
def execLml (s : State) : Result := implied 7 (opStore .l) s

/-- `00000110` LAI: A <- imm8 (R104). -/
def execLai (imm : Byte) (s : State) : Result := immediate 8 (opLoadImm .a imm) s

/-- `00001110` LBI: B <- imm8 (R104). -/
def execLbi (imm : Byte) (s : State) : Result := immediate 8 (opLoadImm .b imm) s

/-- `00010110` LCI: C <- imm8 (R104). -/
def execLci (imm : Byte) (s : State) : Result := immediate 8 (opLoadImm .c imm) s

/-- `00011110` LDI: D <- imm8 (R104). -/
def execLdi (imm : Byte) (s : State) : Result := immediate 8 (opLoadImm .d imm) s

/-- `00100110` LEI: E <- imm8 (R104). -/
def execLei (imm : Byte) (s : State) : Result := immediate 8 (opLoadImm .e imm) s

/-- `00101110` LHI: H <- imm8 (R104). -/
def execLhi (imm : Byte) (s : State) : Result := immediate 8 (opLoadImm .h imm) s

/-- `00110110` LLI: L <- imm8 (R104). -/
def execLli (imm : Byte) (s : State) : Result := immediate 8 (opLoadImm .l imm) s

/-- `00111110` LMI: M <- imm8 (R105). -/
def execLmi (imm : Byte) (s : State) : Result := immediate 9 (opStoreImm imm) s

end Sys2Proof.Machine
end

