-- ==== Sys2Proof/Machine/Rotate.lean ====
section
/-! DEFINITION. Meanings of the four rotates of A (43_rotate.md). -/

namespace Sys2Proof.Machine

/-- `00000010` RLC: rotate A left (R160). -/
def execRlc (s : State) : Result := implied 5 (opRotate fun v _ => rotateLeft v) s

/-- `00001010` RRC: rotate A right (R161). -/
def execRrc (s : State) : Result := implied 5 (opRotate fun v _ => rotateRight v) s

/-- `00010010` RAL: rotate A left through carry (R162). -/
def execRal (s : State) : Result := implied 5 (opRotate rotateLeftCarry) s

/-- `00011010` RAR: rotate A right through carry (R163). -/
def execRar (s : State) : Result := implied 5 (opRotate rotateRightCarry) s

end Sys2Proof.Machine
end

