-- ==== Sys2Proof/Machine/Dispatch.lean ====
section
/-! DEFINITION. The dispatch: one arm per instruction, each one call of its meaning. -/

namespace Sys2Proof.Machine

def exec (i : Instr) (s : State) : Host.Outcome State Fault Refusal :=
  match i with
  | .hlt x => Sys2Proof.Machine.execHlt x s
  | .rlc => Sys2Proof.Machine.execRlc s
  | .adi imm => Sys2Proof.Machine.execAdi imm s
  | .lai imm => Sys2Proof.Machine.execLai imm s
  | .ret x => Sys2Proof.Machine.execRet x s
  | .inb => Sys2Proof.Machine.execInb s
  | .dcb => Sys2Proof.Machine.execDcb s
  | .rrc => Sys2Proof.Machine.execRrc s
  | .aci imm => Sys2Proof.Machine.execAci imm s
  | .lbi imm => Sys2Proof.Machine.execLbi imm s
  | .inc => Sys2Proof.Machine.execInc s
  | .dcc => Sys2Proof.Machine.execDcc s
  | .ral => Sys2Proof.Machine.execRal s
  | .sui imm => Sys2Proof.Machine.execSui imm s
  | .lci imm => Sys2Proof.Machine.execLci imm s
  | .ind => Sys2Proof.Machine.execInd s
  | .dcd => Sys2Proof.Machine.execDcd s
  | .rar => Sys2Proof.Machine.execRar s
  | .sbi imm => Sys2Proof.Machine.execSbi imm s
  | .ldi imm => Sys2Proof.Machine.execLdi imm s
  | .ine => Sys2Proof.Machine.execIne s
  | .dce => Sys2Proof.Machine.execDce s
  | .ndi imm => Sys2Proof.Machine.execNdi imm s
  | .lei imm => Sys2Proof.Machine.execLei imm s
  | .inh => Sys2Proof.Machine.execInh s
  | .dch => Sys2Proof.Machine.execDch s
  | .xri imm => Sys2Proof.Machine.execXri imm s
  | .lhi imm => Sys2Proof.Machine.execLhi imm s
  | .inl => Sys2Proof.Machine.execInl s
  | .dcl => Sys2Proof.Machine.execDcl s
  | .ori imm => Sys2Proof.Machine.execOri imm s
  | .lli imm => Sys2Proof.Machine.execLli imm s
  | .cpi imm => Sys2Proof.Machine.execCpi imm s
  | .lmi imm => Sys2Proof.Machine.execLmi imm s
  | .jfc target => Sys2Proof.Machine.execJfc target s
  | .inp port => Sys2Proof.Machine.execInp port s
  | .cfc target => Sys2Proof.Machine.execCfc target s
  | .jmp x target => Sys2Proof.Machine.execJmp x target s
  | .cal x target => Sys2Proof.Machine.execCal x target s
  | .jfz target => Sys2Proof.Machine.execJfz target s
  | .cfz target => Sys2Proof.Machine.execCfz target s
  | .jfs target => Sys2Proof.Machine.execJfs target s
  | .out8 port => Sys2Proof.Machine.execOut8 port s
  | .cfs target => Sys2Proof.Machine.execCfs target s
  | .jfp target => Sys2Proof.Machine.execJfp target s
  | .cfp target => Sys2Proof.Machine.execCfp target s
  | .jtc target => Sys2Proof.Machine.execJtc target s
  | .out16 port => Sys2Proof.Machine.execOut16 port s
  | .ctc target => Sys2Proof.Machine.execCtc target s
  | .jtz target => Sys2Proof.Machine.execJtz target s
  | .ctz target => Sys2Proof.Machine.execCtz target s
  | .jts target => Sys2Proof.Machine.execJts target s
  | .out24 port => Sys2Proof.Machine.execOut24 port s
  | .cts target => Sys2Proof.Machine.execCts target s
  | .jtp target => Sys2Proof.Machine.execJtp target s
  | .ctp target => Sys2Proof.Machine.execCtp target s
  | .ada => Sys2Proof.Machine.execAda s
  | .adb => Sys2Proof.Machine.execAdb s
  | .adc => Sys2Proof.Machine.execAdc s
  | .add => Sys2Proof.Machine.execAdd s
  | .ade => Sys2Proof.Machine.execAde s
  | .adh => Sys2Proof.Machine.execAdh s
  | .adl => Sys2Proof.Machine.execAdl s
  | .adm => Sys2Proof.Machine.execAdm s
  | .aca => Sys2Proof.Machine.execAca s
  | .acb => Sys2Proof.Machine.execAcb s
  | .acc => Sys2Proof.Machine.execAcc s
  | .acd => Sys2Proof.Machine.execAcd s
  | .ace => Sys2Proof.Machine.execAce s
  | .ach => Sys2Proof.Machine.execAch s
  | .acl => Sys2Proof.Machine.execAcl s
  | .acm => Sys2Proof.Machine.execAcm s
  | .sua => Sys2Proof.Machine.execSua s
  | .sub => Sys2Proof.Machine.execSub s
  | .suc => Sys2Proof.Machine.execSuc s
  | .sud => Sys2Proof.Machine.execSud s
  | .sue => Sys2Proof.Machine.execSue s
  | .suh => Sys2Proof.Machine.execSuh s
  | .sul => Sys2Proof.Machine.execSul s
  | .sum => Sys2Proof.Machine.execSum s
  | .sba => Sys2Proof.Machine.execSba s
  | .sbb => Sys2Proof.Machine.execSbb s
  | .sbc => Sys2Proof.Machine.execSbc s
  | .sbd => Sys2Proof.Machine.execSbd s
  | .sbe => Sys2Proof.Machine.execSbe s
  | .sbh => Sys2Proof.Machine.execSbh s
  | .sbl => Sys2Proof.Machine.execSbl s
  | .sbm => Sys2Proof.Machine.execSbm s
  | .nda => Sys2Proof.Machine.execNda s
  | .ndb => Sys2Proof.Machine.execNdb s
  | .ndc => Sys2Proof.Machine.execNdc s
  | .ndd => Sys2Proof.Machine.execNdd s
  | .nde => Sys2Proof.Machine.execNde s
  | .ndh => Sys2Proof.Machine.execNdh s
  | .ndl => Sys2Proof.Machine.execNdl s
  | .ndm => Sys2Proof.Machine.execNdm s
  | .xra => Sys2Proof.Machine.execXra s
  | .xrb => Sys2Proof.Machine.execXrb s
  | .xrc => Sys2Proof.Machine.execXrc s
  | .xrd => Sys2Proof.Machine.execXrd s
  | .xre => Sys2Proof.Machine.execXre s
  | .xrh => Sys2Proof.Machine.execXrh s
  | .xrl => Sys2Proof.Machine.execXrl s
  | .xrm => Sys2Proof.Machine.execXrm s
  | .ora => Sys2Proof.Machine.execOra s
  | .orb => Sys2Proof.Machine.execOrb s
  | .orc => Sys2Proof.Machine.execOrc s
  | .ord => Sys2Proof.Machine.execOrd s
  | .ore => Sys2Proof.Machine.execOre s
  | .orh => Sys2Proof.Machine.execOrh s
  | .orl => Sys2Proof.Machine.execOrl s
  | .orm => Sys2Proof.Machine.execOrm s
  | .cpa => Sys2Proof.Machine.execCpa s
  | .cpb => Sys2Proof.Machine.execCpb s
  | .cpc => Sys2Proof.Machine.execCpc s
  | .cpd => Sys2Proof.Machine.execCpd s
  | .cpe => Sys2Proof.Machine.execCpe s
  | .cph => Sys2Proof.Machine.execCph s
  | .cpl => Sys2Proof.Machine.execCpl s
  | .cpm => Sys2Proof.Machine.execCpm s
  | .nop => Sys2Proof.Machine.execNop s
  | .lab => Sys2Proof.Machine.execLab s
  | .lac => Sys2Proof.Machine.execLac s
  | .lad => Sys2Proof.Machine.execLad s
  | .lae => Sys2Proof.Machine.execLae s
  | .lah => Sys2Proof.Machine.execLah s
  | .lal => Sys2Proof.Machine.execLal s
  | .lam => Sys2Proof.Machine.execLam s
  | .lba => Sys2Proof.Machine.execLba s
  | .lbb => Sys2Proof.Machine.execLbb s
  | .lbc => Sys2Proof.Machine.execLbc s
  | .lbd => Sys2Proof.Machine.execLbd s
  | .lbe => Sys2Proof.Machine.execLbe s
  | .lbh => Sys2Proof.Machine.execLbh s
  | .lbl => Sys2Proof.Machine.execLbl s
  | .lbm => Sys2Proof.Machine.execLbm s
  | .lca => Sys2Proof.Machine.execLca s
  | .lcb => Sys2Proof.Machine.execLcb s
  | .lcc => Sys2Proof.Machine.execLcc s
  | .lcd => Sys2Proof.Machine.execLcd s
  | .lce => Sys2Proof.Machine.execLce s
  | .lch => Sys2Proof.Machine.execLch s
  | .lcl => Sys2Proof.Machine.execLcl s
  | .lcm => Sys2Proof.Machine.execLcm s
  | .lda => Sys2Proof.Machine.execLda s
  | .ldb => Sys2Proof.Machine.execLdb s
  | .ldc => Sys2Proof.Machine.execLdc s
  | .ldd => Sys2Proof.Machine.execLdd s
  | .lde => Sys2Proof.Machine.execLde s
  | .ldh => Sys2Proof.Machine.execLdh s
  | .ldl => Sys2Proof.Machine.execLdl s
  | .ldm => Sys2Proof.Machine.execLdm s
  | .lea => Sys2Proof.Machine.execLea s
  | .leb => Sys2Proof.Machine.execLeb s
  | .lec => Sys2Proof.Machine.execLec s
  | .led => Sys2Proof.Machine.execLed s
  | .lee => Sys2Proof.Machine.execLee s
  | .leh => Sys2Proof.Machine.execLeh s
  | .lel => Sys2Proof.Machine.execLel s
  | .lem => Sys2Proof.Machine.execLem s
  | .lha => Sys2Proof.Machine.execLha s
  | .lhb => Sys2Proof.Machine.execLhb s
  | .lhc => Sys2Proof.Machine.execLhc s
  | .lhd => Sys2Proof.Machine.execLhd s
  | .lhe => Sys2Proof.Machine.execLhe s
  | .lhh => Sys2Proof.Machine.execLhh s
  | .lhl => Sys2Proof.Machine.execLhl s
  | .lhm => Sys2Proof.Machine.execLhm s
  | .lla => Sys2Proof.Machine.execLla s
  | .llb => Sys2Proof.Machine.execLlb s
  | .llc => Sys2Proof.Machine.execLlc s
  | .lld => Sys2Proof.Machine.execLld s
  | .lle => Sys2Proof.Machine.execLle s
  | .llh => Sys2Proof.Machine.execLlh s
  | .lll => Sys2Proof.Machine.execLll s
  | .llm => Sys2Proof.Machine.execLlm s
  | .lma => Sys2Proof.Machine.execLma s
  | .lmb => Sys2Proof.Machine.execLmb s
  | .lmc => Sys2Proof.Machine.execLmc s
  | .lmd => Sys2Proof.Machine.execLmd s
  | .lme => Sys2Proof.Machine.execLme s
  | .lmh => Sys2Proof.Machine.execLmh s
  | .lml => Sys2Proof.Machine.execLml s
  | .hltFF => Sys2Proof.Machine.execHltFF s

end Sys2Proof.Machine
end

