-- ==== Sys2Proof/Machine/Isd.lean ====
section
/-! DEFINITION. The instruction set descriptor (30_encoding.md): the default table of R57, an ISD as the table the decoder
and the assembler share, its two lookups, the decoder it makes, and the constraints of R64 on one. -/

namespace Sys2Proof

/-- The size in bytes of an instruction of a mode (R51). -/
def Mode.size : Mode → Nat
  | .immediate => 2
  | .absolute => 3
  | .implied => 1
  | .relative => 2

/-- The number of cycles a cost stands for in an engine (R5, R285). -/
def Cost.value (p : Params) : Cost → Nat
  | .fixed n => n
  | .cycCond => p.cycCond

/-! ## The default table -/

/-- The mnemonic the default table gives an instruction (30_encoding.md section 5). -/
def Instr.mnemonic : Instr → String
  | .hlt _ => "HLT"
  | .rlc => "RLC"
  | .adi _ => "ADI"
  | .lai _ => "LAI"
  | .ret _ => "RET"
  | .inb => "INB"
  | .dcb => "DCB"
  | .rrc => "RRC"
  | .aci _ => "ACI"
  | .lbi _ => "LBI"
  | .inc => "INC"
  | .dcc => "DCC"
  | .ral => "RAL"
  | .sui _ => "SUI"
  | .lci _ => "LCI"
  | .ind => "IND"
  | .dcd => "DCD"
  | .rar => "RAR"
  | .sbi _ => "SBI"
  | .ldi _ => "LDI"
  | .ine => "INE"
  | .dce => "DCE"
  | .ndi _ => "NDI"
  | .lei _ => "LEI"
  | .inh => "INH"
  | .dch => "DCH"
  | .xri _ => "XRI"
  | .lhi _ => "LHI"
  | .inl => "INL"
  | .dcl => "DCL"
  | .ori _ => "ORI"
  | .lli _ => "LLI"
  | .cpi _ => "CPI"
  | .lmi _ => "LMI"
  | .jfc _ => "JFC"
  | .inp _ => "INP"
  | .cfc _ => "CFC"
  | .jmp _ _ => "JMP"
  | .cal _ _ => "CAL"
  | .jfz _ => "JFZ"
  | .cfz _ => "CFZ"
  | .jfs _ => "JFS"
  | .out8 _ => "OUT"
  | .cfs _ => "CFS"
  | .jfp _ => "JFP"
  | .cfp _ => "CFP"
  | .jtc _ => "JTC"
  | .out16 _ => "OUT"
  | .ctc _ => "CTC"
  | .jtz _ => "JTZ"
  | .ctz _ => "CTZ"
  | .jts _ => "JTS"
  | .out24 _ => "OUT"
  | .cts _ => "CTS"
  | .jtp _ => "JTP"
  | .ctp _ => "CTP"
  | .ada => "ADA"
  | .adb => "ADB"
  | .adc => "ADC"
  | .add => "ADD"
  | .ade => "ADE"
  | .adh => "ADH"
  | .adl => "ADL"
  | .adm => "ADM"
  | .aca => "ACA"
  | .acb => "ACB"
  | .acc => "ACC"
  | .acd => "ACD"
  | .ace => "ACE"
  | .ach => "ACH"
  | .acl => "ACL"
  | .acm => "ACM"
  | .sua => "SUA"
  | .sub => "SUB"
  | .suc => "SUC"
  | .sud => "SUD"
  | .sue => "SUE"
  | .suh => "SUH"
  | .sul => "SUL"
  | .sum => "SUM"
  | .sba => "SBA"
  | .sbb => "SBB"
  | .sbc => "SBC"
  | .sbd => "SBD"
  | .sbe => "SBE"
  | .sbh => "SBH"
  | .sbl => "SBL"
  | .sbm => "SBM"
  | .nda => "NDA"
  | .ndb => "NDB"
  | .ndc => "NDC"
  | .ndd => "NDD"
  | .nde => "NDE"
  | .ndh => "NDH"
  | .ndl => "NDL"
  | .ndm => "NDM"
  | .xra => "XRA"
  | .xrb => "XRB"
  | .xrc => "XRC"
  | .xrd => "XRD"
  | .xre => "XRE"
  | .xrh => "XRH"
  | .xrl => "XRL"
  | .xrm => "XRM"
  | .ora => "ORA"
  | .orb => "ORB"
  | .orc => "ORC"
  | .ord => "ORD"
  | .ore => "ORE"
  | .orh => "ORH"
  | .orl => "ORL"
  | .orm => "ORM"
  | .cpa => "CPA"
  | .cpb => "CPB"
  | .cpc => "CPC"
  | .cpd => "CPD"
  | .cpe => "CPE"
  | .cph => "CPH"
  | .cpl => "CPL"
  | .cpm => "CPM"
  | .nop => "NOP"
  | .lab => "LAB"
  | .lac => "LAC"
  | .lad => "LAD"
  | .lae => "LAE"
  | .lah => "LAH"
  | .lal => "LAL"
  | .lam => "LAM"
  | .lba => "LBA"
  | .lbb => "LBB"
  | .lbc => "LBC"
  | .lbd => "LBD"
  | .lbe => "LBE"
  | .lbh => "LBH"
  | .lbl => "LBL"
  | .lbm => "LBM"
  | .lca => "LCA"
  | .lcb => "LCB"
  | .lcc => "LCC"
  | .lcd => "LCD"
  | .lce => "LCE"
  | .lch => "LCH"
  | .lcl => "LCL"
  | .lcm => "LCM"
  | .lda => "LDA"
  | .ldb => "LDB"
  | .ldc => "LDC"
  | .ldd => "LDD"
  | .lde => "LDE"
  | .ldh => "LDH"
  | .ldl => "LDL"
  | .ldm => "LDM"
  | .lea => "LEA"
  | .leb => "LEB"
  | .lec => "LEC"
  | .led => "LED"
  | .lee => "LEE"
  | .leh => "LEH"
  | .lel => "LEL"
  | .lem => "LEM"
  | .lha => "LHA"
  | .lhb => "LHB"
  | .lhc => "LHC"
  | .lhd => "LHD"
  | .lhe => "LHE"
  | .lhh => "LHH"
  | .lhl => "LHL"
  | .lhm => "LHM"
  | .lla => "LLA"
  | .llb => "LLB"
  | .llc => "LLC"
  | .lld => "LLD"
  | .lle => "LLE"
  | .llh => "LLH"
  | .lll => "LLL"
  | .llm => "LLM"
  | .lma => "LMA"
  | .lmb => "LMB"
  | .lmc => "LMC"
  | .lmd => "LMD"
  | .lme => "LME"
  | .lmh => "LMH"
  | .lml => "LML"
  | .hltFF => "HLT"

/-- The cost the default table declares for an instruction (R285). -/
def Instr.cost : Instr → Cost
  | .jmp _ _ | .cal _ _ => .fixed 11
  | .hlt _ | .hltFF => .fixed 4
  | .rlc | .ret _ | .inb | .dcb | .rrc | .inc | .dcc | .ral | .ind | .dcd | .rar | .ine | .dce | .inh | .dch
  | .inl | .dcl | .ada | .adb | .adc | .add | .ade | .adh | .adl | .aca | .acb | .acc | .acd | .ace | .ach
  | .acl | .sua | .sub | .suc | .sud | .sue | .suh | .sul | .sba | .sbb | .sbc | .sbd | .sbe | .sbh | .sbl
  | .nda | .ndb | .ndc | .ndd | .nde | .ndh | .ndl | .xra | .xrb | .xrc | .xrd | .xre | .xrh | .xrl | .ora
  | .orb | .orc | .ord | .ore | .orh | .orl | .cpa | .cpb | .cpc | .cpd | .cpe | .cph | .cpl | .nop | .lab
  | .lac | .lad | .lae | .lah | .lal | .lba | .lbb | .lbc | .lbd | .lbe | .lbh | .lbl | .lca | .lcb | .lcc
  | .lcd | .lce | .lch | .lcl | .lda | .ldb | .ldc | .ldd | .lde | .ldh | .ldl | .lea | .leb | .lec | .led
  | .lee | .leh | .lel | .lha | .lhb | .lhc | .lhd | .lhe | .lhh | .lhl | .lla | .llb | .llc | .lld | .lle
  | .llh | .lll => .fixed 5
  | .out8 _ | .out16 _ | .out24 _ => .fixed 6
  | .lma | .lmb | .lmc | .lmd | .lme | .lmh | .lml => .fixed 7
  | .adi _ | .lai _ | .aci _ | .lbi _ | .sui _ | .lci _ | .sbi _ | .ldi _ | .ndi _ | .lei _ | .xri _ | .lhi _
  | .ori _ | .lli _ | .cpi _ | .inp _ | .adm | .acm | .sum | .sbm | .ndm | .xrm | .orm | .cpm | .lam | .lbm
  | .lcm | .ldm | .lem | .lhm | .llm => .fixed 8
  | .lmi _ => .fixed 9
  | .jfc _ | .cfc _ | .jfz _ | .cfz _ | .jfs _ | .cfs _ | .jfp _ | .cfp _ | .jtc _ | .ctc _ | .jtz _ | .ctz _
  | .jts _ | .cts _ | .jtp _ | .ctp _ => .cycCond

/-- The mode of a form. -/
def formMode : OpForm → Mode
  | .implied _ => .implied
  | .immediate _ => .immediate
  | .absolute _ => .absolute
  | .relative => .relative

/-- The instruction of a form with operand bytes of zeros; its mnemonic and cost are the form's. -/
def formInstr : OpForm → Option Instr
  | .implied i => some i
  | .immediate mk => some (mk 0#8)
  | .absolute mk => some (mk 0#16)
  | .relative => none

/-- The entry of an opcode in the default table (R57, R59): it performs the rule of its own opcode. -/
def defaultEntry (op : Byte) : Option InstructionSpec :=
  match decodeOpcode op with
  | none => none
  | some form =>
    match formInstr form with
    | none => none
    | some i =>
      some { opcode := op, mnemonic := i.mnemonic, mode := formMode form, size := (formMode form).size,
             cost := i.cost, rule := op }

/-! ## An ISD as a table -/

/-- `lookup_by_opcode`, total on the opcodes: the row that replaces the default one, else the default one (R59). -/
def lookupByOpcode (isd : Isd) (op : Byte) : Option InstructionSpec :=
  match isd.rows.find? fun row => row.1 == op with
  | some row => row.2
  | none => defaultEntry op

/-- The opcode bytes in rising order. -/
def allOpcodes : List Byte := (List.range 256).map (BitVec.ofNat 8)

/-- The entries of an ISD in rising order of opcode. -/
def isdEntries (isd : Isd) : List InstructionSpec := allOpcodes.filterMap (lookupByOpcode isd)

/-- `lookup_by_mnemonic`: the entry with the lowest opcode among those that carry the name; exact match (R58, R221). -/
def lookupByMnemonic (isd : Isd) (name : String) : Option InstructionSpec :=
  (isdEntries isd).find? fun e => e.mnemonic == name

/-- The ISD of a function on the opcodes: every table there is, is one (`lookupByOpcode_ofFn` in Laws/Isd.lean). -/
def Isd.ofFn (f : Byte → Option InstructionSpec) : Isd := { rows := allOpcodes.map fun op => (op, f op) }

/-- The form of an entry: the one R57 gives the rule it performs; none of those in mode Relative (R60, R62). -/
def InstructionSpec.form (e : InstructionSpec) : Option OpForm :=
  if e.mode = .relative then some .relative else decodeOpcode e.rule

/-- `Decode` under an ISD, on a byte list: the entry of the opcode byte, the instruction and the bytes after it (R61). -/
def decodeWith (isd : Isd) : List Byte → Except DecodeReject (InstructionSpec × Instr × List Byte)
  | [] => .error .noBytes
  | op :: rest =>
    match lookupByOpcode isd op with
    | none => .error (.undefinedOpcode op)
    | some e =>
      match e.form with
      | none => .error (.undefinedOpcode op)
      | some form =>
        match decodeForm op form rest with
        | .ok (i, more) => .ok (e, i, more)
        | .error r => .error r

/-! ## The constraints on a replacement ISD (R64) -/

/-- The prefixes of the jump/call family (R210, D26). -/
def jumpCallPrefixes : List String := ["JMP", "JF", "JT", "CAL", "CF", "CT"]

/-- The jump/call family: a mnemonic that begins with one of the prefixes (R210). -/
def isJumpCall (m : String) : Bool := jumpCallPrefixes.any fun p => p.toList.isPrefixOf m.toList

/-- The immediate family: a mnemonic that ends in `I` (R211). -/
def isImmediate (m : String) : Bool := m.toList.getLast? == some 'I'

/-- The mnemonic R57 gives the rule that an entry performs; none in mode Relative. -/
def InstructionSpec.ruleMnemonic (e : InstructionSpec) : Option String :=
  (e.form.bind formInstr).map Instr.mnemonic

/-- The mnemonics that R64 (d) and (e) name, with the mode they name for each. -/
def documentModes : List (String × Mode) :=
  [("LAI", .immediate), ("LBI", .immediate), ("LHI", .immediate), ("LLI", .immediate), ("ADB", .implied),
   ("HLT", .implied)]

/-- The mnemonics whose cost R64 (d) names, with that cost. -/
def documentCosts : List (String × Nat) := [("LAI", 8), ("LBI", 8), ("ADB", 5), ("HLT", 4)]

/-- The constraints of R64 on the entry of an opcode, by their letters: (a) and (b); (c), a rule halts exactly under the
mnemonic `HLT`; (d) and (e) for the mnemonics they name, which perform the rule of that name (log 34); (f); (g), a
rule there is, in the mode of the entry, unless that is Relative (R62, log 22). -/
abbrev InstructionSpec.meets (p : Params) (op : Byte) (e : InstructionSpec) : Prop :=
  e.opcode = op ∧
  e.size = e.mode.size ∧
  1 ≤ e.cost.value p ∧
  (e.mnemonic = "HLT" ↔ e.ruleMnemonic = some "HLT") ∧
  (∀ d ∈ documentCosts, e.mnemonic = d.1 → e.cost.value p = d.2) ∧
  (∀ d ∈ documentModes, e.mnemonic = d.1 → e.mode = d.2 ∧ e.ruleMnemonic = some d.1) ∧
  (e.mode = .absolute ↔ isJumpCall e.mnemonic = true) ∧
  (e.mode = .immediate ↔ isJumpCall e.mnemonic = false ∧ isImmediate e.mnemonic = true) ∧
  e.form.map formMode = some e.mode

/-- The constraints a replacement ISD must meet (R64): every entry meets them, and the mnemonics that (d) and (e) name
have an entry. The costs are those under the parameters `p`. -/
abbrev Isd.meets (p : Params) (isd : Isd) : Prop :=
  (allOpcodes.all fun op => (lookupByOpcode isd op).all fun e => decide (e.meets p op)) = true ∧
  ∀ d ∈ documentModes, (lookupByMnemonic isd d.1).isSome

/-- The ranges R5 gives the parameters: `1 <= MEM_SIZE <= 65536` (R31, D23), a positive `CLOCK_RATE`, a positive
`CYC_COND`, and an ISD that meets R64. Outside them an engine is refused at creation (U22; logs 32, 35). -/
abbrev Params.wf (p : Params) : Prop :=
  1 ≤ p.memSize ∧ p.memSize ≤ 65536 ∧ 0 < p.clockRate ∧ 1 ≤ p.cycCond ∧ p.isd.meets p

end Sys2Proof
end

