-- ==== Sys2Proof/Machine/Fetch.lean ====
section
/-! DEFINITION. The phases of the instruction step around the meaning (R60): fetch and decode before it, by the ISD of the
engine, and the charge of the declared cost after it. -/

namespace Sys2Proof.Machine

/-- Fetch and decode at `pc` (R60): the opcode byte, its entry in the ISD of this engine, then exactly the operand bytes
its mode has, each at `pc` plus its offset modulo 65536 (R37, R43, R54, R55). The first fault in this order is the one
reported (R244). A Relative entry has no operand bytes to read: it is refused (R62). -/
def fetch (s : State) : Except Fault (InstructionSpec × Instr) :=
  match memRead s s.pc with
  | .error f => .error f
  | .ok op =>
    match lookupByOpcode s.cfg.isd op with
    | none => .error (.decodeError s.pc op)
    | some e =>
      match e.form with
      | none => .error (.decodeError s.pc op)
      | some .relative => .error (.decodeError s.pc op)
      | some (.implied i) => .ok (e, i)
      | some (.immediate mk) =>
        match memRead s (s.pc + 1#16) with
        | .error f => .error f
        | .ok v => .ok (e, mk v)
      | some (.absolute mk) =>
        match memRead s (s.pc + 1#16) with
        | .error f => .error f
        | .ok lo =>
          match memRead s (s.pc + 2#16) with
          | .error f => .error f
          | .ok hi => .ok (e, mk (addrOfBytes lo hi))

/-- `cyc <- cyc + spec.cycles` for the entry that was fetched at `s`, on the outcome of its instruction (R21, R60). Under
the default table the cost is the one the meaning has already added, and nothing changes (log 33). -/
def charge (e : InstructionSpec) (s : State) : Result → Result
  | .next t => .next { t with cyc := s.cyc + e.cost.value s.cfg }
  | .fault f => .fault f
  | .refused r => .refused r

end Sys2Proof.Machine
end

