-- ==== Sys2Proof/Machine/Step.lean ====
section
/-! DEFINITION. One step of the engine (R60, R275), and the placing of one instruction where the step fetches it. -/

namespace Sys2Proof.Machine

/-- One instruction: fetch and decode, its meaning, and the cost that its entry declares (R60). The halted signal the host gets beside the state is
`hostStep` in Machine/Engine.lean (R245, log 8). -/
def step (s : State) : Host.Outcome State Fault Refusal :=
  match fetch s with
  | .ok (e, i) => charge e s (exec i s)
  | .error f => raise f

/-- The state with the bytes of a table word stored from `pc` on, as `load` with the origin `pc` would store them
(R272, log 11). -/
def State.withFetchWord (s : State) (nbits w : Nat) : State := s.placeBytes s.pc (wordBytes nbits w)

end Sys2Proof.Machine
end

