-- ==== Sys2Proof/Machine/Assembler.lean ====
section
/-! DEFINITION. The two-pass assembler as a pure function from source text and an origin to a byte image and a label
table, or an error (49_assembler.md). -/

namespace Sys2Proof.Machine

/-- The four errors of the assembler, by name only (R200, R256; log 25). -/
inductive AsmError where
  | unknownMnemonic
  | unresolvedLabel
  | oversizeImmediate
  | invalidOperandFormat
  deriving DecidableEq, Repr

/-- The label table: each name once, with its 16-bit address (R200, R204; log 21). -/
abbrev Labels := List (String × Addr)

/-- Bind a name; a later binding replaces an earlier one (R204, D21). -/
def Labels.bindName (t : Labels) (name : String) (a : Addr) : Labels := t.filter (fun e => e.1 ≠ name) ++ [(name, a)]

/-- Look a name up; names are case-sensitive (R204, R221). -/
def Labels.find (t : Labels) (name : String) : Option Addr := (t.find? fun e => e.1 == name).map fun e => e.2

/-! ## Lines (R201 to R203) -/

/-- Spaces and tabs are the blanks (R202, D18). -/
def isBlank (c : Char) : Bool := c == ' ' || c == '\t'

/-- A carriage return just before a line feed is blank space at the end of its line (R201), so it is dropped. -/
def dropCr : List Char → List Char
  | [] => []
  | c :: rest => if c == '\r' && rest.head? == some '\n' then dropCr rest else c :: dropCr rest

/-- The lines of a text, separated by line feeds (R201). -/
def splitLines : List Char → List (List Char)
  | [] => [[]]
  | c :: rest =>
    if c == '\n' then [] :: splitLines rest
    else
      match splitLines rest with
      | l :: ls => (c :: l) :: ls
      | [] => [[c]]

/-- Delete leading and trailing blanks. -/
def trimBlanks (l : List Char) : List Char := ((l.dropWhile isBlank).reverse.dropWhile isBlank).reverse

/-- Line preparation, the same in both passes: cut at the first `;`, then trim (R202). -/
def prepareLine (l : List Char) : List Char := trimBlanks (l.takeWhile fun c => c != ';')

/-- The maximal runs of non-blank characters, `cur` being the run read so far (R203). -/
def tokensFrom (cur : List Char) : List Char → List (List Char)
  | [] => if cur.isEmpty then [] else [cur]
  | c :: rest =>
    if isBlank c then (if cur.isEmpty then tokensFrom [] rest else cur :: tokensFrom [] rest)
    else tokensFrom (cur ++ [c]) rest

/-- What a prepared line is (R203). A label whose name is empty or holds a blank is `badLabel` (R204). -/
inductive Line where
  | empty
  | label (name : String)
  | badLabel
  | instr (mnemonic : String) (operands : List (List Char))
  deriving DecidableEq, Repr

/-- Classify a prepared line (R203, R204). -/
def classifyLine (l : List Char) : Line :=
  if l.isEmpty then .empty
  else if l.getLast? == some ':' then
    let name := trimBlanks l.dropLast
    if name.isEmpty || name.any isBlank then .badLabel else .label (String.ofList name)
  else
    match tokensFrom [] l with
    | [] => .empty
    | m :: ops => .instr (String.ofList m) ops

/-- The lines of a source text, prepared and classified. -/
def sourceLines (source : String) : List Line :=
  (splitLines (dropCr source.toList)).map fun l => classifyLine (prepareLine l)

/-! ## Pass 1 (R205 to R208) -/

/-- Sizes and labels: `a` is the address of the next byte, computed without wrap; no label above `0xFFFF`, no
instruction byte above `0xFFFF` (R205 to R207). -/
def pass1 (isd : Isd) : List Line → Nat → Labels → Except AsmError Labels
  | [], _, t => .ok t
  | .empty :: rest, a, t => pass1 isd rest a t
  | .badLabel :: _, _, _ => .error .invalidOperandFormat
  | .label name :: rest, a, t =>
    if 0xFFFF < a then .error .invalidOperandFormat else pass1 isd rest a (t.bindName name (BitVec.ofNat 16 a))
  | .instr m _ :: rest, a, t =>
    match lookupByMnemonic isd m with
    | none => .error .unknownMnemonic
    | some e => if 0x10000 < a + e.size then .error .invalidOperandFormat else pass1 isd rest (a + e.size) t

/-! ## Operands (R210 to R217) -/

/-- The operand of an instruction line, as it is encoded (R214). -/
inductive AsmOperand where
  | none
  | imm (v : Byte)
  | abs (a : Addr)
  deriving DecidableEq, Repr

/-- The hexadecimal digits in the order of their values, in either case (R213, R221). -/
def digitsUpper : List Char := "0123456789ABCDEF".toList

/-- The same in lower case (R213, R221). -/
def digitsLower : List Char := "0123456789abcdef".toList

/-- The value of a hexadecimal digit: its place among the digits (R213, R221). -/
def hexDigit (c : Char) : Option Nat := (digitsUpper.idxOf? c).or (digitsLower.idxOf? c)

/-- The number that hexadecimal digits spell after the number `acc` read so far; `none` if a character is no digit. -/
def hexValueFrom (acc : Nat) (digits : List Char) : Option Nat :=
  digits.foldlM (fun n c => (hexDigit c).map fun d => 16 * n + d) acc

/-- An absolute operand: `$` and one to four digits, or a label (R213, R217 (2)). -/
def absoluteOperand (t : Labels) (tok : List Char) : Except AsmError AsmOperand :=
  if tok.head? == some '$' then
    let digits := tok.tail
    if digits.isEmpty || 4 < digits.length then .error .invalidOperandFormat
    else
      match hexValueFrom 0 digits with
      | some v => .ok (.abs (BitVec.ofNat 16 v))
      | none => .error .invalidOperandFormat
  else
    match t.find (String.ofList tok) with
    | some a => .ok (.abs a)
    | none => .error .unresolvedLabel

/-- An immediate operand: `#$` and one or more digits, the value at most `0xFF` (R215, R216, R217 (3)). -/
def immediateOperand (tok : List Char) : Except AsmError AsmOperand :=
  if tok.take 2 == ['#', '$'] && !(tok.drop 2).isEmpty then
    match hexValueFrom 0 (tok.drop 2) with
    | some v => if 0xFF < v then .error .oversizeImmediate else .ok (.imm (BitVec.ofNat 8 v))
    | none => .error .invalidOperandFormat
  else .error .invalidOperandFormat

/-- The operand form "selected by mnemonic shape" (R209 to R212, R217). -/
def parseOperand (t : Labels) (m : String) (ops : List (List Char)) : Except AsmError AsmOperand :=
  if isJumpCall m then
    match ops with
    | [tok] => absoluteOperand t tok
    | _ => .error .invalidOperandFormat
  else if isImmediate m then
    match ops with
    | [tok] => immediateOperand tok
    | _ => .error .invalidOperandFormat
  else
    match ops with
    | [] => .ok .none
    | _ => .error .invalidOperandFormat

/-! ## Pass 2 (R209, R214) -/

/-- `Encode`: the bytes of an entry, which is the canonical one of its mnemonic, with its operand (R214). -/
def emit (e : InstructionSpec) : AsmOperand → List Byte
  | .none => [e.opcode]
  | .imm v => [e.opcode, v]
  | .abs a => absoluteBytes e.opcode a

/-- The bytes of one line (R209). Labels and empty lines give none. -/
def encodeLine (isd : Isd) (t : Labels) : Line → Except AsmError (List Byte)
  | .empty => .ok []
  | .label _ => .ok []
  | .badLabel => .ok []
  | .instr m ops =>
    match lookupByMnemonic isd m with
    | none => .error .unknownMnemonic
    | some e =>
      match parseOperand t m ops with
      | .ok v => .ok (emit e v)
      | .error err => .error err

/-- The bytes of the lines in order; the first failing line decides the error (R209, R217). -/
def pass2 (isd : Isd) (t : Labels) : List Line → Except AsmError (List Byte)
  | [] => .ok []
  | l :: rest =>
    match encodeLine isd t l with
    | .error err => .error err
    | .ok bytes =>
      match pass2 isd t rest with
      | .error err => .error err
      | .ok more => .ok (bytes ++ more)

/-- `Assemble(source, origin)` under an ISD, the one that the engine reads: all of the output or none of it (R200, R208,
R217, R65). -/
def assemble (isd : Isd) (source : String) (origin : Addr) : Except AsmError (List Byte × Labels) :=
  let lines := sourceLines source
  match pass1 isd lines origin.toNat [] with
  | .error err => .error err
  | .ok t =>
    match pass2 isd t lines with
    | .error err => .error err
    | .ok bytes => .ok (bytes, t)

end Sys2Proof.Machine
end

