-- ==== Sys2Proof/Machine/Engine.lean ====
section
/-! DEFINITION. The engine's control surface, what the host can do to it between two instructions: load, step with its
signal, run, read, write and the accessors (20_memory.md R45, 70_reset_and_hazards.md R270 to R276). -/

namespace Sys2Proof.Machine

/-- `Create` with parameters: refused when one is outside its range, or the ISD does not meet R64 (R270, U22; logs 32,
35). -/
def createEngine (p : Params) : Option State := if p.wf then some (State.create p) else none

/-- What a step hands to the host beside the state (R245, R275). -/
inductive Signal where
  /-- The step returned `halted = false`. -/
  | running
  /-- The step returned `halted = true`: it executed `HLT` (R185). -/
  | halted
  /-- The step raised a fault; the state is as before it (R243). -/
  | fault (f : Fault)
  /-- No instruction is refused; this follows the host's third outcome. -/
  | refused (r : Refusal)
  deriving DecidableEq, Repr

/-- Whether the instruction at `pc` is one that halts: a property of the mnemonic of its entry and of nothing else (R60,
R185). -/
def haltsNext (s : State) : Bool :=
  match fetch s with
  | .ok (e, _) => e.mnemonic == "HLT"
  | .error _ => false

/-- `step()` as the host sees it: a state and a signal, the state unchanged on a fault (R243, R245, R275; logs 8, 9). -/
def hostStep (s : State) : State × Signal :=
  match step s with
  | .next t => (t, if haltsNext s then .halted else .running)
  | .fault f => (s, .fault f)
  | .refused r => (s, .refused r)

/-- `run()` with at most `fuel` steps: it goes on while the signal is `running`, so a last signal `running` means that
the fuel ran out (R273, R274). -/
def run : Nat → State → State × Signal
  | 0, s => (s, .running)
  | fuel + 1, s =>
    match hostStep s with
    | (t, .running) => run fuel t
    | (t, signal) => (t, signal)

/-- Write an image byte by byte from a natural address on (R272). -/
def writeImage : Memory → Nat → List Byte → Memory
  | m, _, [] => m
  | m, a, b :: rest => writeImage (Memory.write m a b) (a + 1) rest

/-- `load(image, origin)`: refused whole when the image does not fit, else the bytes in place and `pc = origin` (R272,
D28). -/
def load (image : List Byte) (origin : Addr) (s : State) : Except Fault State :=
  if 0 < image.length ∧ s.cfg.memSize < origin.toNat + image.length then
    .error (.memoryBounds (max origin.toNat s.cfg.memSize))
  else .ok ((s.setMem (writeImage s.mem origin.toNat image)).setPc origin)

/-- Host `read(addr)` (R45). -/
def hostRead (a : Addr) (s : State) : Except Fault Byte := memRead s a

/-- Host `write(addr, byte)` (R45). -/
def hostWrite (a : Addr) (v : Byte) (s : State) : Except Fault State := memWrite s a v

/-- `get_reg` (R276). -/
def hostGetReg (r : Reg) (s : State) : Byte := s.getReg r

/-- `set_reg` (R276). -/
def hostSetReg (r : Reg) (v : Byte) (s : State) : State := s.setReg r v

/-- `get_pc` (R276). -/
def hostGetPc (s : State) : Addr := s.pc

/-- `set_pc` (R276). -/
def hostSetPc (a : Addr) (s : State) : State := s.setPc a

/-- `get_sp` (R276). -/
def hostGetSp (s : State) : Byte := s.sp

/-- `set_sp`, the only way beside calls and returns that `sp` gets a value (R15, R276). -/
def hostSetSp (v : Byte) (s : State) : State := s.setSp v

/-- `get_flag`; the host cannot write a flag (R276, D31). -/
def hostGetFlag (f : FlagName) (s : State) : Bool := s.getFlag f

/-- `get_cycles`; the host cannot write the counter (R276, D31). -/
def hostGetCycles (s : State) : Nat := s.cyc

/-- The target duration in seconds of `cyc` cycles at the clock rate of the engine, the one architectural input of pacing
(R284; log 20). -/
def targetTime (s : State) : Rat := s.cyc / s.cfg.clockRate

end Sys2Proof.Machine
end

