-- ==== Sys2Proof/Safety.lean ====
section
/-! DEFINITION. The terms the claims use: the invariant of an engine, what each instruction may write and which addresses
it touches (from the tables of R18 and R32, not from the meanings), and what a run free of bounds faults is. -/

namespace Sys2Proof

open Sys2Proof.Machine

/-- The invariant of an engine: the parameters are in their ranges (R5, R31), the memory list has its canonical form
(log 10), and lists only addresses that exist (R31). -/
abbrev Machine.State.wf (s : State) : Prop :=
  s.cfg.wf ∧ Memory.wf s.mem ∧ ∀ c ∈ s.mem, c.1 < s.cfg.memSize

/-- A run with any number of steps raises no bounds fault. -/
def Machine.State.boundsSafe (s : State) : Prop := ∀ fuel a, (run fuel s).2 ≠ .fault (.memoryBounds a)

/-- The two slots a call writes, in the order it checks them (R32, R171). -/
def Machine.State.callSlots (s : State) : List Addr := [slotAddr (s.sp - 1#8), slotAddr (s.sp - 2#8)]

/-- The two slots a return reads, in the order it checks them (R32, R172). -/
def Machine.State.returnSlots (s : State) : List Addr := [slotAddr s.sp, slotAddr (s.sp + 1#8)]

/-- The slots of a conditional call: none when its condition fails (R32, R177, R178). -/
def Machine.State.callSlotsIf (s : State) (flag : FlagName) (sense : Bool) : List Addr :=
  if s.getFlag flag = sense then s.callSlots else []

/-- The register an instruction writes, if any (the destination its rule names). -/
def Instr.destination : Instr → Option Reg
  | .rlc | .adi _ | .lai _ | .rrc | .aci _ | .ral | .sui _ | .rar | .sbi _ | .ndi _ | .xri _ | .ori _ | .inp _
  | .ada | .adb | .adc | .add | .ade | .adh | .adl | .adm | .aca | .acb | .acc | .acd | .ace | .ach | .acl
  | .acm | .sua | .sub | .suc | .sud | .sue | .suh | .sul | .sum | .sba | .sbb | .sbc | .sbd | .sbe | .sbh
  | .sbl | .sbm | .nda | .ndb | .ndc | .ndd | .nde | .ndh | .ndl | .ndm | .xra | .xrb | .xrc | .xrd | .xre
  | .xrh | .xrl | .xrm | .ora | .orb | .orc | .ord | .ore | .orh | .orl | .orm | .lab | .lac | .lad | .lae
  | .lah | .lal | .lam => some .a
  | .inb | .dcb | .lbi _ | .lba | .lbb | .lbc | .lbd | .lbe | .lbh | .lbl | .lbm => some .b
  | .inc | .dcc | .lci _ | .lca | .lcb | .lcc | .lcd | .lce | .lch | .lcl | .lcm => some .c
  | .ind | .dcd | .ldi _ | .lda | .ldb | .ldc | .ldd | .lde | .ldh | .ldl | .ldm => some .d
  | .ine | .dce | .lei _ | .lea | .leb | .lec | .led | .lee | .leh | .lel | .lem => some .e
  | .inh | .dch | .lhi _ | .lha | .lhb | .lhc | .lhd | .lhe | .lhh | .lhl | .lhm => some .h
  | .inl | .dcl | .lli _ | .lla | .llb | .llc | .lld | .lle | .llh | .lll | .llm => some .l
  | .hlt _ | .ret _ | .cpi _ | .lmi _ | .jfc _ | .cfc _ | .jmp _ _ | .cal _ _ | .jfz _ | .cfz _ | .jfs _
  | .out8 _ | .cfs _ | .jfp _ | .cfp _ | .jtc _ | .out16 _ | .ctc _ | .jtz _ | .ctz _ | .jts _ | .out24 _
  | .cts _ | .jtp _ | .ctp _ | .cpa | .cpb | .cpc | .cpd | .cpe | .cph | .cpl | .cpm | .nop | .lma | .lmb
  | .lmc | .lmd | .lme | .lmh | .lml | .hltFF => none

/-- The flags an instruction writes: the table of R18. -/
def Instr.flagsWritten : Instr → List FlagName
  | .adi _ | .aci _ | .sui _ | .sbi _ | .ndi _ | .xri _ | .ori _ | .cpi _ | .ada | .adb | .adc | .add | .ade
  | .adh | .adl | .adm | .aca | .acb | .acc | .acd | .ace | .ach | .acl | .acm | .sua | .sub | .suc | .sud
  | .sue | .suh | .sul | .sum | .sba | .sbb | .sbc | .sbd | .sbe | .sbh | .sbl | .sbm | .nda | .ndb | .ndc
  | .ndd | .nde | .ndh | .ndl | .ndm | .xra | .xrb | .xrc | .xrd | .xre | .xrh | .xrl | .xrm | .ora | .orb
  | .orc | .ord | .ore | .orh | .orl | .orm | .cpa | .cpb | .cpc | .cpd | .cpe | .cph | .cpl | .cpm =>
    [.carry, .zero, .sign, .parity]
  | .inb | .dcb | .inc | .dcc | .ind | .dcd | .ine | .dce | .inh | .dch | .inl | .dcl =>
    [.zero, .sign, .parity]
  | .rlc | .rrc | .ral | .rar => [.carry]
  | .hlt _ | .lai _ | .ret _ | .lbi _ | .lci _ | .ldi _ | .lei _ | .lhi _ | .lli _ | .lmi _ | .jfc _ | .inp _
  | .cfc _ | .jmp _ _ | .cal _ _ | .jfz _ | .cfz _ | .jfs _ | .out8 _ | .cfs _ | .jfp _ | .cfp _ | .jtc _
  | .out16 _ | .ctc _ | .jtz _ | .ctz _ | .jts _ | .out24 _ | .cts _ | .jtp _ | .ctp _ | .nop | .lab | .lac
  | .lad | .lae | .lah | .lal | .lam | .lba | .lbb | .lbc | .lbd | .lbe | .lbh | .lbl | .lbm | .lca | .lcb
  | .lcc | .lcd | .lce | .lch | .lcl | .lcm | .lda | .ldb | .ldc | .ldd | .lde | .ldh | .ldl | .ldm | .lea
  | .leb | .lec | .led | .lee | .leh | .lel | .lem | .lha | .lhb | .lhc | .lhd | .lhe | .lhh | .lhl | .lhm
  | .lla | .llb | .llc | .lld | .lle | .llh | .lll | .llm | .lma | .lmb | .lmc | .lmd | .lme | .lmh | .lml
  | .hltFF => []

/-- The addresses an instruction stores to, in order: the writes of the table of R32. -/
def Instr.storeAddresses (i : Instr) (s : State) : List Addr :=
  match i with
  | .lmi _ | .lma | .lmb | .lmc | .lmd | .lme | .lmh | .lml => [s.hl]
  | .cal _ _ => s.callSlots
  | .cfc _ => s.callSlotsIf .carry false
  | .cfz _ => s.callSlotsIf .zero false
  | .cfs _ => s.callSlotsIf .sign false
  | .cfp _ => s.callSlotsIf .parity false
  | .ctc _ => s.callSlotsIf .carry true
  | .ctz _ => s.callSlotsIf .zero true
  | .cts _ => s.callSlotsIf .sign true
  | .ctp _ => s.callSlotsIf .parity true
  | .out8 port | .out16 port | .out24 port => [s.ioAddr port]
  | .hlt _ | .rlc | .adi _ | .lai _ | .ret _ | .inb | .dcb | .rrc | .aci _ | .lbi _ | .inc | .dcc | .ral
  | .sui _ | .lci _ | .ind | .dcd | .rar | .sbi _ | .ldi _ | .ine | .dce | .ndi _ | .lei _ | .inh | .dch
  | .xri _ | .lhi _ | .inl | .dcl | .ori _ | .lli _ | .cpi _ | .jfc _ | .inp _ | .jmp _ _ | .jfz _ | .jfs _
  | .jfp _ | .jtc _ | .jtz _ | .jts _ | .jtp _ | .ada | .adb | .adc | .add | .ade | .adh | .adl | .adm | .aca
  | .acb | .acc | .acd | .ace | .ach | .acl | .acm | .sua | .sub | .suc | .sud | .sue | .suh | .sul | .sum
  | .sba | .sbb | .sbc | .sbd | .sbe | .sbh | .sbl | .sbm | .nda | .ndb | .ndc | .ndd | .nde | .ndh | .ndl
  | .ndm | .xra | .xrb | .xrc | .xrd | .xre | .xrh | .xrl | .xrm | .ora | .orb | .orc | .ord | .ore | .orh
  | .orl | .orm | .cpa | .cpb | .cpc | .cpd | .cpe | .cph | .cpl | .cpm | .nop | .lab | .lac | .lad | .lae
  | .lah | .lal | .lam | .lba | .lbb | .lbc | .lbd | .lbe | .lbh | .lbl | .lbm | .lca | .lcb | .lcc | .lcd
  | .lce | .lch | .lcl | .lcm | .lda | .ldb | .ldc | .ldd | .lde | .ldh | .ldl | .ldm | .lea | .leb | .lec
  | .led | .lee | .leh | .lel | .lem | .lha | .lhb | .lhc | .lhd | .lhe | .lhh | .lhl | .lhm | .lla | .llb
  | .llc | .lld | .lle | .llh | .lll | .llm | .hltFF => []

/-- The addresses an instruction reads as data, in order: the reads of the table of R32. -/
def Instr.loadAddresses (i : Instr) (s : State) : List Addr :=
  match i with
  | .adm | .acm | .sum | .sbm | .ndm | .xrm | .orm | .cpm | .lam | .lbm | .lcm | .ldm | .lem | .lhm | .llm => [s.hl]
  | .ret _ => s.returnSlots
  | .inp port => [s.ioAddr port]
  | .hlt _ | .rlc | .adi _ | .lai _ | .inb | .dcb | .rrc | .aci _ | .lbi _ | .inc | .dcc | .ral | .sui _
  | .lci _ | .ind | .dcd | .rar | .sbi _ | .ldi _ | .ine | .dce | .ndi _ | .lei _ | .inh | .dch | .xri _
  | .lhi _ | .inl | .dcl | .ori _ | .lli _ | .cpi _ | .lmi _ | .jfc _ | .cfc _ | .jmp _ _ | .cal _ _ | .jfz _
  | .cfz _ | .jfs _ | .out8 _ | .cfs _ | .jfp _ | .cfp _ | .jtc _ | .out16 _ | .ctc _ | .jtz _ | .ctz _
  | .jts _ | .out24 _ | .cts _ | .jtp _ | .ctp _ | .ada | .adb | .adc | .add | .ade | .adh | .adl | .aca | .acb
  | .acc | .acd | .ace | .ach | .acl | .sua | .sub | .suc | .sud | .sue | .suh | .sul | .sba | .sbb | .sbc
  | .sbd | .sbe | .sbh | .sbl | .nda | .ndb | .ndc | .ndd | .nde | .ndh | .ndl | .xra | .xrb | .xrc | .xrd
  | .xre | .xrh | .xrl | .ora | .orb | .orc | .ord | .ore | .orh | .orl | .cpa | .cpb | .cpc | .cpd | .cpe
  | .cph | .cpl | .nop | .lab | .lac | .lad | .lae | .lah | .lal | .lba | .lbb | .lbc | .lbd | .lbe | .lbh
  | .lbl | .lca | .lcb | .lcc | .lcd | .lce | .lch | .lcl | .lda | .ldb | .ldc | .ldd | .lde | .ldh | .ldl
  | .lea | .leb | .lec | .led | .lee | .leh | .lel | .lha | .lhb | .lhc | .lhd | .lhe | .lhh | .lhl | .lla
  | .llb | .llc | .lld | .lle | .llh | .lll | .lma | .lmb | .lmc | .lmd | .lme | .lmh | .lml | .hltFF => []

/-- The data accesses of an instruction in the order of R32; none both reads and writes (R43). -/
def Instr.dataAddresses (i : Instr) (s : State) : List Addr := i.loadAddresses s ++ i.storeAddresses s

/-- The stack pointer after an instruction: moved by the calls that are taken and by the return, by nothing else (R15,
R171, R172). -/
def Instr.spAfter (i : Instr) (s : State) : Byte :=
  match i with
  | .cal _ _ => s.sp - 2#8
  | .ret _ => s.sp + 2#8
  | .cfc _ => if s.getFlag .carry = false then s.sp - 2#8 else s.sp
  | .cfz _ => if s.getFlag .zero = false then s.sp - 2#8 else s.sp
  | .cfs _ => if s.getFlag .sign = false then s.sp - 2#8 else s.sp
  | .cfp _ => if s.getFlag .parity = false then s.sp - 2#8 else s.sp
  | .ctc _ => if s.getFlag .carry = true then s.sp - 2#8 else s.sp
  | .ctz _ => if s.getFlag .zero = true then s.sp - 2#8 else s.sp
  | .cts _ => if s.getFlag .sign = true then s.sp - 2#8 else s.sp
  | .ctp _ => if s.getFlag .parity = true then s.sp - 2#8 else s.sp
  | .hlt _ | .rlc | .adi _ | .lai _ | .inb | .dcb | .rrc | .aci _ | .lbi _ | .inc | .dcc | .ral | .sui _
  | .lci _ | .ind | .dcd | .rar | .sbi _ | .ldi _ | .ine | .dce | .ndi _ | .lei _ | .inh | .dch | .xri _
  | .lhi _ | .inl | .dcl | .ori _ | .lli _ | .cpi _ | .lmi _ | .jfc _ | .inp _ | .jmp _ _ | .jfz _ | .jfs _
  | .out8 _ | .jfp _ | .jtc _ | .out16 _ | .jtz _ | .jts _ | .out24 _ | .jtp _ | .ada | .adb | .adc | .add
  | .ade | .adh | .adl | .adm | .aca | .acb | .acc | .acd | .ace | .ach | .acl | .acm | .sua | .sub | .suc
  | .sud | .sue | .suh | .sul | .sum | .sba | .sbb | .sbc | .sbd | .sbe | .sbh | .sbl | .sbm | .nda | .ndb
  | .ndc | .ndd | .nde | .ndh | .ndl | .ndm | .xra | .xrb | .xrc | .xrd | .xre | .xrh | .xrl | .xrm | .ora
  | .orb | .orc | .ord | .ore | .orh | .orl | .orm | .cpa | .cpb | .cpc | .cpd | .cpe | .cph | .cpl | .cpm
  | .nop | .lab | .lac | .lad | .lae | .lah | .lal | .lam | .lba | .lbb | .lbc | .lbd | .lbe | .lbh | .lbl
  | .lbm | .lca | .lcb | .lcc | .lcd | .lce | .lch | .lcl | .lcm | .lda | .ldb | .ldc | .ldd | .lde | .ldh
  | .ldl | .ldm | .lea | .leb | .lec | .led | .lee | .leh | .lel | .lem | .lha | .lhb | .lhc | .lhd | .lhe
  | .lhh | .lhl | .lhm | .lla | .llb | .llc | .lld | .lle | .llh | .lll | .llm | .lma | .lmb | .lmc | .lmd
  | .lme | .lmh | .lml | .hltFF => s.sp

end Sys2Proof
end

