-- ==== Sys2Proof/Certificates/Slice0/Obligations.lean ====
section
/-! DEFINITION. The statements for the provers. They are written from the numbered rules of spec/, over every state and
every parameter set unless a premise says otherwise. -/

open Sys2Proof Sys2Proof.Machine

/-! ## Terms the statements share -/

/-- An operand has the shape of a mode (R51, R214). -/
def Sys2Proof.Claims.fits : Mode → AsmOperand → Prop
  | .implied, .none => True
  | .immediate, .imm _ => True
  | .absolute, .abs _ => True
  | _, _ => False

/-- The instruction that the rule of an entry performs with an operand of its mode (R57, R60). -/
def Sys2Proof.Claims.performs (e : InstructionSpec) : AsmOperand → Instr → Prop
  | .none, i => decodeOpcode e.rule = some (.implied i)
  | .imm v, i => ∃ mk, decodeOpcode e.rule = some (.immediate mk) ∧ i = mk v
  | .abs a, i => ∃ mk, decodeOpcode e.rule = some (.absolute mk) ∧ i = mk a

/-- The opcodes of the default table without an entry (R59): the conditional returns `00 ccc 011` and the restarts
`00 aaa 101` of the family, and six more of group 0. -/
def Sys2Proof.Claims.undefinedOpcodes : List Byte :=
  [0x03, 0x0B, 0x13, 0x1B, 0x23, 0x2B, 0x33, 0x3B] ++ [0x05, 0x0D, 0x15, 0x1D, 0x25, 0x2D, 0x35, 0x3D] ++
  [0x22, 0x2A, 0x32] ++ [0x38, 0x39, 0x3A]

/-- The three forms of the accumulator operation `op` (R53, R54, R57): each decodes from its opcode, completes with
`after s v` where `v` is the operand, `pc` past the instruction and the declared cost added, and the form against M
faults, changing nothing, when `HL` is outside memory (R33, R243). -/
def Sys2Proof.Claims.aluForms (op : AluOp) (after : State → Byte → State) : Prop :=
  (∀ (r : Reg) (s : State),
    decode [BitVec.ofNat 8 (0x80 + 8 * op.number + r.number)] = .ok (aluRegInstr op r, []) ∧
    exec (aluRegInstr op r) s =
      .next { after s (s.getReg r) with pc := s.pc + 1#16, cyc := s.cyc + 5 }) ∧
  (∀ s : State,
    decode [BitVec.ofNat 8 (0x87 + 8 * op.number)] = .ok (aluMemInstr op, []) ∧
    (s.hl.toNat < s.cfg.memSize → exec (aluMemInstr op) s =
      .next { after s (Memory.read s.mem s.hl.toNat) with pc := s.pc + 1#16, cyc := s.cyc + 8 }) ∧
    (s.cfg.memSize ≤ s.hl.toNat → exec (aluMemInstr op) s = .fault (.memoryBounds s.hl.toNat))) ∧
  (∀ (v : Byte) (s : State),
    decode [BitVec.ofNat 8 (0x04 + 8 * op.number), v] = .ok (aluImmInstr op v, []) ∧
    exec (aluImmInstr op v) s = .next { after s v with pc := s.pc + 2#16, cyc := s.cyc + 8 })

/-- A state with the accumulator and all four flags written: zero, sign and parity from the result (R16, R122). -/
def Sys2Proof.Claims.withResult (s : State) (r : Byte) (carry : Bool) : State :=
  { s with
    regs := { s.regs with a := r }
    flags := { cf := carry, zf := decide (r = 0#8), sf := decide (128 ≤ r.toNat), pf := parityEven r } }

open Sys2Proof.Claims

/-! ## Encoding -/

/-- Decoding an encoded well-formed instruction gives it back, whatever bytes follow (30_encoding.md sections 1 to
5). -/
def Obligations.DecodeEncodeRoundTrip : Prop :=
  ∀ (i : Instr) (rest : List Byte), i.wellFormed = true → decode (encode i ++ rest) = .ok (i, rest)

/-- Whatever decodes is well formed, and its encoding is the bytes it was decoded from (30_encoding.md sections 1 to 5).
Ignored bits are operands of the model's terms, log 12. -/
def Obligations.EncodeDecodeRoundTrip : Prop :=
  ∀ (bytes rest : List Byte) (i : Instr), decode bytes = .ok (i, rest) → i.wellFormed = true ∧ encode i ++ rest = bytes

/-- What the assembler emits for a mnemonic and an operand of its mode decodes under the same ISD, whichever it is, to the
canonical entry of that mnemonic and its rule with that operand; under the default ISD its bytes are the encoding of an
instruction with that mnemonic (30_encoding.md section 4, the decoder as inverse of the encoder). -/
def Obligations.CanonicalEncodingDecodes : Prop :=
  ∀ (p : Params) (name : String) (e : InstructionSpec) (v : AsmOperand), p.wf →
    lookupByMnemonic p.isd name = some e → fits e.mode v →
    lookupByOpcode p.isd e.opcode = some e ∧ e.mnemonic = name ∧
    ∃ i : Instr, decodeWith p.isd (emit e v) = .ok (e, i, []) ∧ performs e v i ∧
      (p.isd = Isd.default → encode i = emit e v ∧ i.mnemonic = name)

/-- R58 for the default ISD: lookup by mnemonic gives the lowest opcode of that name; the six alias sets; every other
mnemonic has one opcode; all aliases of HLT, RET, JMP and CAL execute identically. The opcode numbers are the spec's
decision D1 (log 7), the alias sets of INP and OUT its decision D13, the exact match its decision D18 (log 31); that the
meanings take the ignored bits as operands is the model's (log 12). -/
def Obligations.MnemonicLookupIsLowestAlias : Prop :=
  (∀ (name : String) (e : InstructionSpec), lookupByMnemonic Isd.default name = some e ↔
    lookupByOpcode Isd.default e.opcode = some e ∧ e.mnemonic = name ∧
    ∀ (o : Byte) (e' : InstructionSpec), lookupByOpcode Isd.default o = some e' → e'.mnemonic = name →
      e.opcode.toNat ≤ o.toNat) ∧
  (∀ (o : Byte) (e : InstructionSpec), lookupByOpcode Isd.default o = some e →
    (e.mnemonic = "HLT" ↔ o ∈ [0x00#8, 0x01#8, 0xFF#8]) ∧
    (e.mnemonic = "RET" ↔ o ∈ [0x07#8, 0x0F#8, 0x17#8, 0x1F#8, 0x27#8, 0x2F#8, 0x37#8, 0x3F#8]) ∧
    (e.mnemonic = "JMP" ↔ o ∈ [0x44#8, 0x4C#8, 0x54#8, 0x5C#8, 0x64#8, 0x6C#8, 0x74#8, 0x7C#8]) ∧
    (e.mnemonic = "CAL" ↔ o ∈ [0x46#8, 0x4E#8, 0x56#8, 0x5E#8, 0x66#8, 0x6E#8, 0x76#8, 0x7E#8]) ∧
    (e.mnemonic = "INP" ↔ o ∈ [0x41#8, 0x43#8, 0x45#8, 0x47#8, 0x49#8, 0x4B#8, 0x4D#8, 0x4F#8]) ∧
    (e.mnemonic = "OUT" ↔ 0x51 ≤ o.toNat ∧ o.toNat ≤ 0x7F ∧ o.toNat % 2 = 1)) ∧
  (∀ (o o' : Byte) (e e' : InstructionSpec), lookupByOpcode Isd.default o = some e → lookupByOpcode Isd.default o' = some e' →
    e.mnemonic = e'.mnemonic → o = o' ∨ e.mnemonic ∈ ["HLT", "RET", "JMP", "CAL", "INP", "OUT"]) ∧
  (∀ (s : State) (x : BitVec 1), exec .hltFF s = exec (.hlt x) s) ∧
  (∀ (s : State) (x y : BitVec 3), exec (.ret x) s = exec (.ret y) s) ∧
  (∀ (s : State) (x y : BitVec 3) (target : Addr),
    exec (.jmp x target) s = exec (.jmp y target) s ∧ exec (.cal x target) s = exec (.cal y target) s)

/-- R59, R241, R62: exactly the 22 listed opcodes have no entry in the default ISD (the list is the spec's decisions D1 and
D8, logs 7 and 17). Under any ISD, a step whose opcode byte can be read raises `DecodeError(pc0, opcode)` exactly when the
opcode has no entry or one of mode Relative (decision D27, log 22); under the default ISD, exactly for the listed ones. -/
def Obligations.UndefinedOpcodesRaiseDecodeError : Prop :=
  (∀ op : Byte, lookupByOpcode Isd.default op = none ↔ op ∈ undefinedOpcodes) ∧
  ∀ (s : State) (op : Byte), memRead s s.pc = .ok op →
    (s.cfg.wf → (step s = .fault (.decodeError s.pc op) ↔
      lookupByOpcode s.cfg.isd op = none ∨ ∃ e, lookupByOpcode s.cfg.isd op = some e ∧ e.mode = .relative)) ∧
    (s.cfg.isd = Isd.default → (op ∈ undefinedOpcodes ↔ step s = .fault (.decodeError s.pc op)))

/-- The default ISD meets the constraints on an ISD (30_encoding.md, section 4): 234 entries and 181 mnemonics, sizes by
mode, positive costs, the document's four costs, no Relative entry, and modes that agree with the assembler's mnemonic
shapes. That an `Isd` stands for any table of entries is the model's representation (DESIGN CHOICE, log 33); the reading
of the constraints (d) and (e) is the model's inference (DEDUCED, log 34). -/
def Obligations.DefaultIsdMeetsConstraints : Prop :=
  (isdEntries Isd.default).length = 234 ∧
  ((isdEntries Isd.default).map fun e => e.mnemonic).dedup.length = 181 ∧
  (∀ p : Params, 1 ≤ p.cycCond → Isd.default.meets p) ∧
  (∀ e ∈ isdEntries Isd.default,
    e.size = e.mode.size ∧ e.mode ≠ .relative ∧ e.cost ≠ .fixed 0 ∧
    (e.mnemonic = "LAI" → e.cost = .fixed 8) ∧ (e.mnemonic = "LBI" → e.cost = .fixed 8) ∧
    (e.mnemonic = "ADB" → e.cost = .fixed 5) ∧ (e.mnemonic = "HLT" → e.cost = .fixed 4) ∧
    (e.mode = .absolute ↔ isJumpCall e.mnemonic = true) ∧
    (e.mode = .immediate ↔ isJumpCall e.mnemonic = false ∧ isImmediate e.mnemonic = true)) ∧
  (∀ f : Byte → Option InstructionSpec, ∃ isd : Isd, ∀ op, lookupByOpcode isd op = f op)

/-- A few words written from the field patterns decode to what they stand for: one of each family. -/
def Obligations.SampleWordsDecode : Prop :=
  decode [0b11001000#8] = .ok (.lba, []) ∧ decode [0b11010111#8] = .ok (.lcm, []) ∧
  decode [0b11111100#8] = .ok (.lme, []) ∧ decode [0b00101110#8, 0x12#8] = .ok (.lhi 0x12#8, []) ∧
  decode [0b00110000#8] = .ok (.inl, []) ∧ decode [0b00010001#8] = .ok (.dcc, []) ∧
  decode [0b10011001#8] = .ok (.sbb, []) ∧ decode [0b10111111#8] = .ok (.cpm, []) ∧
  decode [0b00100100#8, 0x0F#8] = .ok (.ndi 0x0F#8, []) ∧ decode [0b00011010#8] = .ok (.rar, []) ∧
  decode [0b01101000#8, 0x34#8, 0x12#8] = .ok (.jtz 0x1234#16, []) ∧
  decode [0b01010010#8, 0x00#8, 0x03#8] = .ok (.cfs 0x0300#16, []) ∧
  decode [0b00111111#8] = .ok (.ret 0b111#3, []) ∧ decode [0b01001111#8] = .ok (.inp 7#5, []) ∧
  decode [0b01111111#8] = .ok (.out24 31#5, []) ∧ decode [0b11111111#8] = .ok (.hltFF, [])

/-! ## The step -/

/-- A step runs the decoded instruction (30_encoding.md, the instruction step): when bytes readable from `pc` on decode
under the ISD of the engine to the entry `e` and the instruction `i`, the step is `exec i` at that state, with the cycle
counter set to what it was plus the cost that `e` declares. Under the default ISD it is `exec i` with nothing around it. -/
def Obligations.StepRunsDecodedInstruction : Prop :=
  ∀ (s : State) (bytes : List Byte),
    (∀ (k : Nat) (h : k < bytes.length), memRead s (s.pc + BitVec.ofNat 16 k) = .ok bytes[k]) →
    (∀ (e : InstructionSpec) (i : Instr) (rest : List Byte), decodeWith s.cfg.isd bytes = .ok (e, i, rest) →
      (∀ t, exec i s = .next t → step s = .next { t with cyc := s.cyc + e.cost.value s.cfg }) ∧
      (∀ f, exec i s = .fault f → step s = .fault f)) ∧
    (∀ (i : Instr) (rest : List Byte), s.cfg.isd = Isd.default → decode bytes = .ok (i, rest) → step s = exec i s)

/-- The fault of a step is the first one reached: opcode fetch, decode, first operand byte, second operand byte, data
access; with none of them the step completes (60_exceptions.md, the priority of faults, which the spec marks as
derived). It holds under every ISD; an operand byte is read where the entry's mode has one, and an entry of mode Relative
is refused before (log 22). -/
def Obligations.StepFaultsInPriorityOrder : Prop :=
  ∀ s : State,
    (s.cfg.memSize ≤ s.pc.toNat → step s = .fault (.memoryBounds s.pc.toNat)) ∧
    (∀ op : Byte, memRead s s.pc = .ok op → lookupByOpcode s.cfg.isd op = none →
      step s = .fault (.decodeError s.pc op)) ∧
    (∀ (op : Byte) (e : InstructionSpec), memRead s s.pc = .ok op → lookupByOpcode s.cfg.isd op = some e →
      (e.mode = .relative → step s = .fault (.decodeError s.pc op)) ∧
      (s.cfg.wf → e.mode ≠ .relative → 2 ≤ e.size → s.cfg.memSize ≤ (s.pc + 1#16).toNat →
        step s = .fault (.memoryBounds (s.pc + 1#16).toNat)) ∧
      (s.cfg.wf → e.size = 3 → (s.pc + 1#16).toNat < s.cfg.memSize → s.cfg.memSize ≤ (s.pc + 2#16).toNat →
        step s = .fault (.memoryBounds (s.pc + 2#16).toNat))) ∧
    (∀ (e : InstructionSpec) (i : Instr), fetch s = .ok (e, i) →
      (∀ a : Addr, (i.dataAddresses s).find? (fun a => decide (s.cfg.memSize ≤ a.toNat)) = some a →
        step s = .fault (.memoryBounds a.toNat)) ∧
      ((∀ a ∈ i.dataAddresses s, a.toNat < s.cfg.memSize) → ∃ t, step s = .next t))

/-- Every instruction completes when its data addresses exist, and otherwise faults on the first that does not
(20_memory.md, the table of accesses; 60_exceptions.md section 1; the bounds fault is the spec's decision D5, log 15).
All 184 constructors. -/
def Obligations.InstructionsCompleteWhenAddressesExist : Prop :=
  ∀ (i : Instr) (s : State),
    ((∀ a ∈ i.dataAddresses s, a.toNat < s.cfg.memSize) → ∃ t, exec i s = .next t) ∧
    (∀ a : Addr, (i.dataAddresses s).find? (fun a => decide (s.cfg.memSize ≤ a.toNat)) = some a →
      exec i s = .fault (.memoryBounds a.toNat))

/-- No step is refused: every instruction has its meaning (60_exceptions.md, the two faults and nothing else). -/
def Obligations.StepNeverRefused : Prop := ∀ (s : State) (r : Refusal), step s ≠ .refused r

/-- R242: with the whole address space in memory no step raises a bounds fault, and with at least page 0 in memory no
call and no return does (the fault is the spec's decision D5, log 15). -/
def Obligations.NoBoundsFaultWhereMemoryExists : Prop :=
  (∀ (s : State) (a : Nat), s.cfg.memSize = 65536 → step s ≠ .fault (.memoryBounds a)) ∧
  (∀ (s : State) (a : Nat) (x : BitVec 3) (flag : FlagName) (sense : Bool) (target : Addr), 256 ≤ s.cfg.memSize →
    exec (.cal x target) s ≠ .fault (.memoryBounds a) ∧ exec (.ret x) s ≠ .fault (.memoryBounds a) ∧
    exec (callInstr sense flag target) s ≠ .fault (.memoryBounds a))

/-- A whole run of an engine with the full address space raises no bounds fault, however long it is (60_exceptions.md
section 1, over every run). -/
def Obligations.FullMemoryRunsAreBoundsSafe : Prop := ∀ s : State, s.cfg.memSize = 65536 → s.boundsSafe

/-! ## Reset, load and the host -/

/-- R270: creation gives the values of the table: registers and memory zero, flags false, `pc` zero, `sp = SP_RESET`,
no cycles (the spec's decision D4, log 3). -/
def Obligations.CreationValues : Prop :=
  ∀ p : Params,
    (∀ r : Reg, (State.create p).getReg r = 0x00#8) ∧ (State.create p).pc = 0x0000#16 ∧
    (State.create p).sp = p.spReset ∧ (∀ f : FlagName, (State.create p).getFlag f = false) ∧
    (∀ a : Nat, Memory.read (State.create p).mem a = 0x00#8) ∧ (State.create p).cyc = 0 ∧ (State.create p).cfg = p

/-- `State.reset` meets the invariant; so does every engine created with parameters in their ranges and an ISD that meets
R64, and creation with others is refused. The refusal is the spec's for MEM_SIZE (U22, log 32) and the model's own for
the other parameters (log 35); the canonical memory list in the invariant is the model's representation (log 10); the memory size,
the clock rate, the ISD and the open parameters of `State.reset` are the model's choice, logs 2, 4, 5, 6, 7 and 20. -/
def Obligations.CreationMeetsInvariant : Prop :=
  State.reset.wf ∧
  ∀ p : Params, (p.wf → ∃ s, createEngine p = some s ∧ s = State.create p ∧ s.wf) ∧ (¬p.wf → createEngine p = none)

/-- Every step keeps the invariant: parameters in range, an ISD that meets R64, memory in canonical form, no byte listed
outside memory (20_memory.md sections 1 and 2; log 10). -/
def Obligations.StepKeepsInvariant : Prop := ∀ s t : State, s.wf → step s = .next t → t.wf

/-- R272: `load` refuses an image that does not fit, whole, with the first address that does not exist (the spec's
decision D28, log 23); otherwise it puts the bytes in place, sets `pc`, and changes nothing else. -/
def Obligations.LoadPlacesImage : Prop :=
  ∀ (image : List Byte) (origin : Addr) (s : State),
    (0 < image.length → s.cfg.memSize < origin.toNat + image.length →
      load image origin s = .error (.memoryBounds (max origin.toNat s.cfg.memSize))) ∧
    (image.length = 0 ∨ origin.toNat + image.length ≤ s.cfg.memSize →
      ∃ t, load image origin s = .ok t ∧ t.pc = origin ∧
        (∀ (k : Nat) (h : k < image.length), Memory.read t.mem (origin.toNat + k) = image[k]) ∧
        (∀ a : Nat, (a < origin.toNat ∨ origin.toNat + image.length ≤ a) →
          Memory.read t.mem a = Memory.read s.mem a) ∧
        t.regs = s.regs ∧ t.flags = s.flags ∧ t.sp = s.sp ∧ t.cyc = s.cyc ∧ t.cfg = s.cfg)

/-- R243: a step that faults leaves the whole state as it was, so stepping again gives the same fault (for the bounds
fault the spec's decision D5, log 15). That the state is unchanged is the model's representation: a fault outcome carries
no state, and `hostStep` pairs it with the state before the step (DESIGN CHOICE, log 9). -/
def Obligations.FaultedStepChangesNothing : Prop :=
  ∀ (s t : State) (f : Fault), hostStep s = (t, .fault f) → t = s ∧ hostStep t = (s, .fault f)

/-- The step reports `halted = true` exactly when the entry of the opcode byte it fetches has the mnemonic `HLT`; the
halting step only moves `pc` past it and adds 4 cycles (45_halt_io.md). Under the default ISD that is exactly at the three
opcodes of `HLT`. -/
def Obligations.HaltedExactlyAtHaltOpcodes : Prop :=
  ∀ s t : State,
    (s.cfg.wf → (hostStep s = (t, .halted) ↔
      (∃ op e, memRead s s.pc = .ok op ∧ lookupByOpcode s.cfg.isd op = some e ∧ e.mnemonic = "HLT") ∧
      t = { s with pc := s.pc + 1#16, cyc := s.cyc + 4 })) ∧
    (s.cfg.isd = Isd.default → (hostStep s = (t, .halted) ↔
      (∃ op ∈ [0x00#8, 0x01#8, 0xFF#8], memRead s s.pc = .ok op) ∧
      t = { s with pc := s.pc + 1#16, cyc := s.cyc + 4 }))

/-- A run that ends by halting ends just after a step that executed `HLT`, and every step before it reported
`running`: its last state is that step's (70_reset_and_hazards.md section 2). -/
def Obligations.RunHaltsOnlyAfterHalt : Prop :=
  ∀ (fuel : Nat) (s t : State), s.cfg.wf → run fuel s = (t, .halted) →
    ∃ (k : Nat) (u : State), k < fuel ∧ run k s = (u, .running) ∧ haltsNext u = true ∧
      t = { u with pc := u.pc + 1#16, cyc := u.cyc + 4 }

/-- A run that ends in a fault ends in the state before the faulting step, where a step raises that fault
(70_reset_and_hazards.md section 2). -/
def Obligations.RunFaultLeavesStateBeforeStep : Prop :=
  ∀ (fuel : Nat) (s t : State) (f : Fault), run fuel s = (t, .fault f) →
    ∃ k, k < fuel ∧ run k s = (t, .running) ∧ step t = .fault f

/-! ## Memory -/

/-- R33, R34: a write inside memory stores its byte and changes no other; a read gives the byte there; an access outside
memory gives the bounds fault (the spec's decision D5, log 15). -/
def Obligations.ReadAfterWrite : Prop :=
  ∀ (s : State) (a : Addr) (v : Byte),
    (a.toNat < s.cfg.memSize →
      ∃ t, memWrite s a v = .ok t ∧ memRead t a = .ok v ∧ (∀ b, b ≠ a → memRead t b = memRead s b) ∧
        t = { s with mem := t.mem }) ∧
    (s.cfg.memSize ≤ a.toNat →
      memRead s a = .error (.memoryBounds a.toNat) ∧ memWrite s a v = .error (.memoryBounds a.toNat))

/-- Two memories in canonical form that read alike at every address are the same list: the model's representation,
log 10. -/
def Obligations.CanonicalMemoriesAreEqual : Prop :=
  ∀ m1 m2 : Memory, Memory.wf m1 → Memory.wf m2 → (∀ a, Memory.read m1 a = Memory.read m2 a) → m1 = m2

/-- A byte stored by `LMr` at the address fetched next is the opcode of the next step (20_memory.md section 5, which the
spec marks as derived): whatever it is, it is the byte read at the new `pc`, so the next step runs what it and the bytes
after it decode to, and raises the decode error when it has no entry. -/
def Obligations.StoreIsSeenByNextFetch : Prop :=
  ∀ (r : Reg) (s t : State), exec (storeInstr r) s = .next t → s.hl = s.pc + 1#16 →
    memRead t t.pc = .ok (s.getReg r) ∧
    (∀ (operands rest : List Byte) (e : InstructionSpec) (i : Instr),
      (∀ (k : Nat) (h : k < operands.length), memRead t (t.pc + BitVec.ofNat 16 (k + 1)) = .ok operands[k]) →
      decodeWith t.cfg.isd (s.getReg r :: operands) = .ok (e, i, rest) →
      (∀ u, exec i t = .next u → step t = .next { u with cyc := t.cyc + e.cost.value t.cfg }) ∧
      (∀ f, exec i t = .fault f → step t = .fault f)) ∧
    (lookupByOpcode s.cfg.isd (s.getReg r) = none → step t = .fault (.decodeError t.pc (s.getReg r)))

/-! ## Moves, loads and stores -/

/-- R100: `NOP` moves `pc` past itself and adds 5 cycles, nothing else (its opcode is the spec's decision D9,
log 29). -/
def Obligations.NopChangesOnlyPcAndCycles : Prop :=
  decode [0xC0#8] = .ok (.nop, []) ∧
  ∀ s : State, exec .nop s = .next { s with pc := s.pc + 1#16, cyc := s.cyc + 5 }

/-- R101: the 48 moves `LAB` … `LLL` copy a register; no flag is written. `NOP` has the encoding of the missing move
of A into itself and behaves like it (R100); that is the spec's decision D9 (log 29). -/
def Obligations.MoveCopiesRegister : Prop :=
  ∀ (dst r : Reg) (s : State),
    decode [BitVec.ofNat 8 (0xC0 + 8 * dst.number + r.number)] = .ok (moveInstr dst r, []) ∧
    exec (moveInstr dst r) s =
      .next { s with regs := s.regs.set dst (s.getReg r), pc := s.pc + 1#16, cyc := s.cyc + 5 }

/-- R102: the 7 loads `LAM` … `LLM` read the byte at the old `HL`, or fault. -/
def Obligations.LoadReadsMemoryAtHL : Prop :=
  ∀ (dst : Reg) (s : State),
    decode [BitVec.ofNat 8 (0xC7 + 8 * dst.number)] = .ok (loadInstr dst, []) ∧
    (s.hl.toNat < s.cfg.memSize → exec (loadInstr dst) s =
      .next { s with regs := s.regs.set dst (Memory.read s.mem s.hl.toNat), pc := s.pc + 1#16, cyc := s.cyc + 8 }) ∧
    (s.cfg.memSize ≤ s.hl.toNat → exec (loadInstr dst) s = .fault (.memoryBounds s.hl.toNat))

/-- R103: the 7 stores `LMA` … `LML` write one byte at `HL`, or fault. -/
def Obligations.StoreWritesMemoryAtHL : Prop :=
  ∀ (r : Reg) (s : State),
    decode [BitVec.ofNat 8 (0xF8 + r.number)] = .ok (storeInstr r, []) ∧
    (s.hl.toNat < s.cfg.memSize → exec (storeInstr r) s =
      .next { s with mem := Memory.write s.mem s.hl.toNat (s.getReg r), pc := s.pc + 1#16, cyc := s.cyc + 7 }) ∧
    (s.cfg.memSize ≤ s.hl.toNat → exec (storeInstr r) s = .fault (.memoryBounds s.hl.toNat))

/-- R104: the 7 load immediates `LAI` … `LLI` write the literal; no flag is written. -/
def Obligations.LoadImmediateWritesLiteral : Prop :=
  ∀ (dst : Reg) (v : Byte) (s : State),
    decode [BitVec.ofNat 8 (0x06 + 8 * dst.number), v] = .ok (loadImmInstr dst v, []) ∧
    exec (loadImmInstr dst v) s = .next { s with regs := s.regs.set dst v, pc := s.pc + 2#16, cyc := s.cyc + 8 }

/-- R105: `LMI` writes the literal at `HL`, or faults (in the ISD by the spec's decision D14, log 29). -/
def Obligations.StoreImmediateWritesLiteral : Prop :=
  ∀ (v : Byte) (s : State),
    decode [0x3E#8, v] = .ok (.lmi v, []) ∧
    (s.hl.toNat < s.cfg.memSize → exec (.lmi v) s =
      .next { s with mem := Memory.write s.mem s.hl.toNat v, pc := s.pc + 2#16, cyc := s.cyc + 9 }) ∧
    (s.cfg.memSize ≤ s.hl.toNat → exec (.lmi v) s = .fault (.memoryBounds s.hl.toNat))

/-! ## Increments and decrements -/

/-- R110, R111: `INB` … `INL` and `DCB` … `DCL` add and subtract one modulo 256; zero, sign and parity from the result,
carry kept. The wrap modulo 256 is the spec's own inference from the register width (it marks it as derived). -/
def Obligations.IncrementAndDecrement : Prop :=
  ∀ (r : Reg) (s : State), r ≠ .a →
    (∃ i, incInstr r = some i ∧ decode [BitVec.ofNat 8 (8 * r.number)] = .ok (i, []) ∧
      exec i s = .next
        { s with
          regs := s.regs.set r (s.getReg r + 1#8)
          flags := { cf := s.flags.cf, zf := decide (s.getReg r = 255#8),
                     sf := decide (127 ≤ (s.getReg r).toNat ∧ (s.getReg r).toNat < 255),
                     pf := parityEven (s.getReg r + 1#8) }
          pc := s.pc + 1#16, cyc := s.cyc + 5 }) ∧
    (∃ i, decInstr r = some i ∧ decode [BitVec.ofNat 8 (8 * r.number + 1)] = .ok (i, []) ∧
      exec i s = .next
        { s with
          regs := s.regs.set r (s.getReg r - 1#8)
          flags := { cf := s.flags.cf, zf := decide (s.getReg r = 1#8),
                     sf := decide ((s.getReg r).toNat = 0 ∨ 128 < (s.getReg r).toNat),
                     pf := parityEven (s.getReg r - 1#8) }
          pc := s.pc + 1#16, cyc := s.cyc + 5 })

/-! ## The ALU -/

/-- R125, R126, R127: `ADA` … `ADL`, `ADM`, `ADI` add without carry; the carry says that the sum exceeds 255. -/
def Obligations.AddForms : Prop :=
  aluForms .ad fun s v =>
    withResult s (BitVec.ofNat 8 (s.regs.a.toNat + v.toNat)) (decide (255 < s.regs.a.toNat + v.toNat))

/-- R128, R129, R130: `ACA` … `ACL`, `ACM`, `ACI` add with the old carry as 0 or 1 (the spec's decision D30, log 30). -/
def Obligations.AddWithCarryForms : Prop :=
  aluForms .ac fun s v =>
    let sum := s.regs.a.toNat + v.toNat + if s.flags.cf then 1 else 0
    withResult s (BitVec.ofNat 8 sum) (decide (255 < sum))

/-- R131, R132, R133: `SUA` … `SUL`, `SUM`, `SUI` subtract; the carry is the true borrow (the spec's decision D2,
log 13). -/
def Obligations.SubtractForms : Prop :=
  aluForms .su fun s v => withResult s (s.regs.a - v) (decide (s.regs.a.toNat < v.toNat))

/-- R134, R135, R136: `SBA` … `SBL`, `SBM`, `SBI` subtract with the old carry as a borrow (decisions D2 and D30,
logs 13 and 30). -/
def Obligations.SubtractWithBorrowForms : Prop :=
  aluForms .sb fun s v =>
    let borrow := if s.flags.cf then 1 else 0
    withResult s (s.regs.a - v - BitVec.ofNat 8 borrow) (decide (s.regs.a.toNat < v.toNat + borrow))

/-- R137, R138, R139: `NDA` … `NDL`, `NDM`, `NDI` form the bitwise and, and clear the carry (decision D10,
log 18). -/
def Obligations.AndForms : Prop := aluForms .nd fun s v => withResult s (s.regs.a &&& v) false

/-- R140, R141, R142: `XRA` … `XRL`, `XRM`, `XRI` form the exclusive or, and clear the carry (decision D10,
log 18). -/
def Obligations.XorForms : Prop := aluForms .xr fun s v => withResult s (s.regs.a ^^^ v) false

/-- R143, R144, R145: `ORA` … `ORL`, `ORM`, `ORI` form the bitwise or, and clear the carry (decision D10,
log 18). -/
def Obligations.OrForms : Prop := aluForms .or fun s v => withResult s (s.regs.a ||| v) false

/-- R146, R147, R148: `CPA` … `CPL`, `CPM`, `CPI` set the flags of the difference and write no register; zero says
equal, carry says below (decision D11, log 18). -/
def Obligations.CompareForms : Prop :=
  aluForms .cp fun s v =>
    { s with
      flags := { cf := decide (s.regs.a.toNat < v.toNat), zf := decide (s.regs.a = v),
                 sf := decide (128 ≤ (s.regs.a - v).toNat), pf := parityEven (s.regs.a - v) } }

/-- R17: parity is even when the number of set bits is; said by pairing off the bits. -/
def Obligations.ParityIsEvenBitCount : Prop :=
  ∀ v : Byte, parityEven v = !(v[0] ^^ v[1] ^^ v[2] ^^ v[3] ^^ v[4] ^^ v[5] ^^ v[6] ^^ v[7])

/-- The borrow of `SUB8` is the test "exceeds 255" on the difference in 16-bit unsigned arithmetic, and its result byte
is the low byte of that difference (42_alu.md section 1, an equivalence the spec marks as derived). -/
def Obligations.BorrowIsWidenedCarryTest : Prop :=
  ∀ (a v : Byte) (bin : Bool),
    let wide : BitVec 16 := a.setWidth 16 - v.setWidth 16 - (if bin then 1#16 else 0#16)
    sub8 a v bin = (wide.setWidth 8, decide (255 < wide.toNat))

/-! ## Rotates -/

/-- R160, R161: `RLC` and `RRC` rotate A by one bit; the bit rotated around goes to the carry; zero, sign, parity and
every other register are kept (the spec's decision D12, log 18). -/
def Obligations.RotateWithinAccumulator : Prop :=
  ∀ s : State,
    decode [0x02#8] = .ok (.rlc, []) ∧ decode [0x0A#8] = .ok (.rrc, []) ∧
    exec .rlc s = .next
      { s with regs := { s.regs with a := s.regs.a.rotateLeft 1 }, flags := { s.flags with cf := s.regs.a.getLsbD 7 },
               pc := s.pc + 1#16, cyc := s.cyc + 5 } ∧
    exec .rrc s = .next
      { s with regs := { s.regs with a := s.regs.a.rotateRight 1 }, flags := { s.flags with cf := s.regs.a.getLsbD 0 },
               pc := s.pc + 1#16, cyc := s.cyc + 5 }

/-- R162, R163: `RAL` and `RAR` rotate the nine bits of carry and A by one (the spec's decision D12, log 18). -/
def Obligations.RotateThroughCarry : Prop :=
  ∀ s : State,
    decode [0x12#8] = .ok (.ral, []) ∧ decode [0x1A#8] = .ok (.rar, []) ∧
    exec .ral s = .next
      { s with regs := { s.regs with a := (s.regs.a <<< 1) ||| (if s.flags.cf then 1#8 else 0#8) }
               flags := { s.flags with cf := s.regs.a.getLsbD 7 }
               pc := s.pc + 1#16, cyc := s.cyc + 5 } ∧
    exec .rar s = .next
      { s with regs := { s.regs with a := (s.regs.a >>> 1) ||| (if s.flags.cf then 128#8 else 0#8) }
               flags := { s.flags with cf := s.regs.a.getLsbD 0 }
               pc := s.pc + 1#16, cyc := s.cyc + 5 }

/-- The outcome of executing instructions one after another: the first that does not answer a next state ends it. -/
def Sys2Proof.Claims.executes : List Instr → State → Result
  | [], s => .next s
  | i :: rest, s =>
    match exec i s with
    | .next t => Sys2Proof.Claims.executes rest t
    | .fault f => .fault f
    | .refused r => .refused r

/-- `RRC` undoes `RLC` and `RLC` undoes `RRC` but for `pc`, `cyc` and the carry, which holds the bit that went around;
`RAR` undoes `RAL` and `RAL` undoes `RAR` but for `pc` and `cyc`; eight circular rotates restore A, and nine through the
carry restore A and the carry, everything else kept (43_rotate.md, the corner cases; decision D12, log 18). -/
def Obligations.RotatesUndoEachOther : Prop :=
  ∀ s : State,
    executes [.rlc, .rrc] s = .next
      { s with flags := { s.flags with cf := s.regs.a.getLsbD 7 }, pc := s.pc + 2#16, cyc := s.cyc + 10 } ∧
    executes [.rrc, .rlc] s = .next
      { s with flags := { s.flags with cf := s.regs.a.getLsbD 0 }, pc := s.pc + 2#16, cyc := s.cyc + 10 } ∧
    executes [.ral, .rar] s = .next { s with pc := s.pc + 2#16, cyc := s.cyc + 10 } ∧
    executes [.rar, .ral] s = .next { s with pc := s.pc + 2#16, cyc := s.cyc + 10 } ∧
    executes (List.replicate 8 .rlc) s = .next
      { s with flags := { s.flags with cf := s.regs.a.getLsbD 0 }, pc := s.pc + 8#16, cyc := s.cyc + 40 } ∧
    executes (List.replicate 8 .rrc) s = .next
      { s with flags := { s.flags with cf := s.regs.a.getLsbD 7 }, pc := s.pc + 8#16, cyc := s.cyc + 40 } ∧
    executes (List.replicate 9 .ral) s = .next { s with pc := s.pc + 9#16, cyc := s.cyc + 45 } ∧
    executes (List.replicate 9 .rar) s = .next { s with pc := s.pc + 9#16, cyc := s.cyc + 45 }

/-! ## Jumps, calls and the return -/

/-- R173: `JMP` sets `pc` to its target, whatever the three ignored bits. -/
def Obligations.JumpSetsPc : Prop :=
  ∀ (x : BitVec 3) (target : Addr) (s : State),
    decode [BitVec.ofNat 8 (0x44 + 8 * x.toNat), target.setWidth 8, (target >>> 8).setWidth 8] =
      .ok (.jmp x target, []) ∧
    exec (.jmp x target) s = .next { s with pc := target, cyc := s.cyc + 11 }

/-- R174, R175: `JFC` `JFZ` `JFS` `JFP` jump when the flag is false, `JTC` `JTZ` `JTS` `JTP` when it is true, at the
cost `CYC_COND` either way (the cost is the spec's decision D15, log 6). -/
def Obligations.ConditionalJumps : Prop :=
  ∀ (sense : Bool) (flag : FlagName) (target : Addr) (s : State),
    decode [BitVec.ofNat 8 (0x40 + 32 * sense.toNat + 8 * flag.number), target.setWidth 8, (target >>> 8).setWidth 8] =
      .ok (jumpInstr sense flag target, []) ∧
    exec (jumpInstr sense flag target) s =
      .next { s with pc := if s.getFlag flag = sense then target else s.pc + 3#16, cyc := s.cyc + s.cfg.cycCond }

/-- The state after a call: the return address `pc + 3` in the two bytes below `sp`, high byte above low byte, `sp` down
by two, `pc` at the target (R171, R176). -/
def Sys2Proof.Claims.called (target : Addr) (s : State) : State :=
  let back := s.pc + 3#16
  { s with
    mem := Memory.write (Memory.write s.mem (s.sp - 1#8).toNat ((back >>> 8).setWidth 8)) (s.sp - 2#8).toNat
      (back.setWidth 8)
    sp := s.sp - 2#8
    pc := target }

/-- R176: `CAL` pushes the address of the next instruction and jumps; a slot outside memory faults, the high one first,
and nothing is written (the slots are the spec's decision D3, log 14). -/
def Obligations.CallPushesReturnAddress : Prop :=
  ∀ (x : BitVec 3) (target : Addr) (s : State),
    decode [BitVec.ofNat 8 (0x46 + 8 * x.toNat), target.setWidth 8, (target >>> 8).setWidth 8] =
      .ok (.cal x target, []) ∧
    ((s.sp - 1#8).toNat < s.cfg.memSize → (s.sp - 2#8).toNat < s.cfg.memSize →
      exec (.cal x target) s = .next { called target s with cyc := s.cyc + 11 }) ∧
    (s.cfg.memSize ≤ (s.sp - 1#8).toNat → exec (.cal x target) s = .fault (.memoryBounds (s.sp - 1#8).toNat)) ∧
    ((s.sp - 1#8).toNat < s.cfg.memSize → s.cfg.memSize ≤ (s.sp - 2#8).toNat →
      exec (.cal x target) s = .fault (.memoryBounds (s.sp - 2#8).toNat))

/-- R177, R178: `CFC` `CFZ` `CFS` `CFP` call when the flag is false, `CTC` `CTZ` `CTS` `CTP` when it is true, like
`CAL`; otherwise nothing is pushed and no slot is touched (in the ISD by the spec's decision D8, log 17). -/
def Obligations.ConditionalCalls : Prop :=
  ∀ (sense : Bool) (flag : FlagName) (target : Addr) (s : State),
    decode [BitVec.ofNat 8 (0x42 + 32 * sense.toNat + 8 * flag.number), target.setWidth 8, (target >>> 8).setWidth 8] =
      .ok (callInstr sense flag target, []) ∧
    (s.getFlag flag ≠ sense → exec (callInstr sense flag target) s =
      .next { s with pc := s.pc + 3#16, cyc := s.cyc + s.cfg.cycCond }) ∧
    (s.getFlag flag = sense → (s.sp - 1#8).toNat < s.cfg.memSize → (s.sp - 2#8).toNat < s.cfg.memSize →
      exec (callInstr sense flag target) s = .next { called target s with cyc := s.cyc + s.cfg.cycCond }) ∧
    (s.getFlag flag = sense → s.cfg.memSize ≤ (s.sp - 1#8).toNat →
      exec (callInstr sense flag target) s = .fault (.memoryBounds (s.sp - 1#8).toNat)) ∧
    (s.getFlag flag = sense → (s.sp - 1#8).toNat < s.cfg.memSize → s.cfg.memSize ≤ (s.sp - 2#8).toNat →
      exec (callInstr sense flag target) s = .fault (.memoryBounds (s.sp - 2#8).toNat))

/-- R180: `RET` pops `pc`, the low byte at `sp` and the high byte above it, and moves `sp` up by two; memory keeps the
bytes; a slot outside memory faults, the low one first (the slots are the spec's decision D3, log 14). -/
def Obligations.ReturnPopsPc : Prop :=
  ∀ (x : BitVec 3) (s : State),
    decode [BitVec.ofNat 8 (0x07 + 8 * x.toNat)] = .ok (.ret x, []) ∧
    (s.sp.toNat < s.cfg.memSize → (s.sp + 1#8).toNat < s.cfg.memSize → exec (.ret x) s =
      .next
        { s with
          pc := BitVec.ofNat 16
            ((Memory.read s.mem (s.sp + 1#8).toNat).toNat * 256 + (Memory.read s.mem s.sp.toNat).toNat)
          sp := s.sp + 2#8
          cyc := s.cyc + 5 }) ∧
    (s.cfg.memSize ≤ s.sp.toNat → exec (.ret x) s = .fault (.memoryBounds s.sp.toNat)) ∧
    (s.sp.toNat < s.cfg.memSize → s.cfg.memSize ≤ (s.sp + 1#8).toNat →
      exec (.ret x) s = .fault (.memoryBounds (s.sp + 1#8).toNat))

/-- A return right after a call comes back to the instruction after the call with the stack pointer it had, at every
stack pointer (44_control.md section 1: the pop is the exact inverse of the push, the spec's decision D3, log 14). -/
def Obligations.ReturnUndoesCall : Prop :=
  ∀ (x y : BitVec 3) (target : Addr) (s t : State), exec (.cal x target) s = .next t →
    ∃ u, exec (.ret y) t = .next u ∧ u.pc = s.pc + 3#16 ∧ u.sp = s.sp ∧ u.regs = s.regs ∧ u.flags = s.flags

/-! ## Halt and ports -/

/-- `HLT`, in each of its encodings, moves `pc` past itself and adds 4 cycles; the machine keeps no halted latch
(45_halt_io.md, decision D16, log 8). -/
def Obligations.HaltAdvances : Prop :=
  (∀ x : BitVec 1, decode [x.setWidth 8] = .ok (.hlt x, [])) ∧ decode [0xFF#8] = .ok (.hltFF, []) ∧
  ∀ (x : BitVec 1) (s : State),
    exec (.hlt x) s = .next { s with pc := s.pc + 1#16, cyc := s.cyc + 4 } ∧
    exec .hltFF s = .next { s with pc := s.pc + 1#16, cyc := s.cyc + 4 }

/-- R186: `INP` reads the byte at the port's address into A and writes no flag, or faults (decisions D7 and D13,
logs 5 and 18). -/
def Obligations.InputReadsPort : Prop :=
  ∀ (port : Port) (s : State),
    (port.toNat < 8 → decode [BitVec.ofNat 8 (0x41 + 2 * port.toNat)] = .ok (.inp port, [])) ∧
    ((s.ioAddr port).toNat < s.cfg.memSize → exec (.inp port) s = .next
      { s with
        regs := { s.regs with a := Memory.read s.mem (s.ioAddr port).toNat }
        pc := s.pc + 1#16, cyc := s.cyc + 8 }) ∧
    (s.cfg.memSize ≤ (s.ioAddr port).toNat → exec (.inp port) s = .fault (.memoryBounds (s.ioAddr port).toNat))

/-- R187: `OUT`, in each of its three rows, writes A at the port's address, or faults (decision D7, log 5). -/
def Obligations.OutputWritesPort : Prop :=
  ∀ (port : Port) (s : State), ∀ i ∈ [Instr.out8 port, Instr.out16 port, Instr.out24 port],
    (i.wellFormed = true → decode [BitVec.ofNat 8 (0x41 + 2 * port.toNat)] = .ok (i, [])) ∧
    ((s.ioAddr port).toNat < s.cfg.memSize → exec i s = .next
      { s with
        mem := Memory.write s.mem (s.ioAddr port).toNat s.regs.a
        pc := s.pc + 1#16, cyc := s.cyc + 6 }) ∧
    (s.cfg.memSize ≤ (s.ioAddr port).toNat → exec i s = .fault (.memoryBounds (s.ioAddr port).toNat))

/-! ## What an instruction leaves alone, over all instructions -/

/-- Every register but the destination keeps its value (the destination each instruction rule names). -/
def Obligations.RegisterFrame : Prop :=
  ∀ (i : Instr) (s t : State), exec i s = .next t →
    ∀ r : Reg, i.destination ≠ some r → t.getReg r = s.getReg r

/-- R18: every flag the table does not list for the instruction keeps its value. -/
def Obligations.FlagFrame : Prop :=
  ∀ (i : Instr) (s t : State), exec i s = .next t →
    ∀ f : FlagName, f ∉ i.flagsWritten → t.getFlag f = s.getFlag f

/-- Every byte of memory but those the instruction stores to keeps its value; an instruction that stores nothing leaves
all of memory alone (20_memory.md, the table of accesses, and the write primitive). -/
def Obligations.MemoryFrame : Prop :=
  ∀ (i : Instr) (s t : State), exec i s = .next t →
    (∀ a : Nat, (∀ b ∈ i.storeAddresses s, b.toNat ≠ a) → Memory.read t.mem a = Memory.read s.mem a) ∧
    (i.storeAddresses s = [] → t.mem = s.mem)

/-- R15: only a call that is taken and the return move the stack pointer, down and up by two modulo 256. -/
def Obligations.StackPointerFrame : Prop :=
  ∀ (i : Instr) (s t : State), exec i s = .next t → t.sp = i.spAfter s

/-- R21: every completed instruction adds its declared cost to the cycle counter: a step adds the cost that the fetched
entry of the engine's ISD declares. That `exec` adds the cost of the default table, whatever the ISD of the engine, and
that the step then sets the counter, is the model's own choice (DESIGN CHOICE, log 33); the costs of the default table are
the spec's decision D15 (log 7). -/
def Obligations.CyclesAddDeclaredCost : Prop :=
  (∀ (i : Instr) (s t : State), exec i s = .next t → t.cyc = s.cyc + i.cost.value s.cfg) ∧
  (∀ (op : Byte) (e : InstructionSpec), lookupByOpcode Isd.default op = some e →
    ∃ i rest, decodeWith Isd.default [op, 0#8, 0#8] = .ok (e, i, rest) ∧ e.cost = i.cost) ∧
  (∀ (s t : State) (e : InstructionSpec) (i : Instr), fetch s = .ok (e, i) → step s = .next t →
    t.cyc = s.cyc + e.cost.value s.cfg)

/-! ## The assembler -/

/-- Bytes that are, in order, one instruction for each of the lines: for a line with the mnemonic `m` and the operand
tokens `ops`, the emitted bytes of the canonical entry of `m` with the operand those tokens spell, which decode to that
entry and the instruction it performs on that operand. -/
def Sys2Proof.Claims.canonicalProgram (isd : Isd) (t : Labels) : List (String × List (List Char)) → List Byte → Prop
  | [], bytes => bytes = []
  | (m, ops) :: lines, bytes =>
    ∃ (e : InstructionSpec) (v : AsmOperand) (i : Instr) (rest : List Byte),
      lookupByMnemonic isd m = some e ∧ e.mnemonic = m ∧ parseOperand t m ops = .ok v ∧ bytes = emit e v ++ rest ∧
      decodeWith isd bytes = .ok (e, i, rest) ∧ performs e v i ∧ (isd = Isd.default → i.mnemonic = m) ∧
      Sys2Proof.Claims.canonicalProgram isd t lines rest

/-- The instruction lines of a source text, in order: the mnemonic and the operand tokens of each (R203). -/
def Sys2Proof.Claims.instructionLines (source : String) : List (String × List (List Char)) :=
  (sourceLines source).filterMap fun l => match l with
    | .instr m ops => some (m, ops)
    | .empty => none
    | .label _ => none
    | .badLabel => none

/-- An assembled image is, in the order of the instruction lines, exactly the canonical instruction of each line's mnemonic
with that line's operand, and ends at or below `0x10000`; under the default ISD and under every other that has no Relative
entry (49_assembler.md sections 2 to 4: the properties of the image, which the spec marks as derived). -/
def Obligations.AssembledImageIsCanonicalProgram : Prop :=
  ∀ (p : Params) (source : String) (origin : Addr) (bytes : List Byte) (labels : Labels), p.wf →
    (∀ e ∈ isdEntries p.isd, e.mode ≠ .relative) →
    assemble p.isd source origin = .ok (bytes, labels) →
    canonicalProgram p.isd labels (instructionLines source) bytes ∧
    (bytes ≠ [] → origin.toNat + bytes.length ≤ 0x10000)

/-- R216: for each of the sixteen immediate mnemonics a well-formed literal above `0xFF` is the oversize error, whatever
the label table; a value up to `0xFF` is the operand (for all sixteen by the spec's decision D19,
log 31). -/
def Obligations.OversizeImmediateRejected : Prop :=
  ∀ (t : Labels) (m : String) (digits : List Char) (v : Nat),
    m ∈ ["LAI", "LBI", "LCI", "LDI", "LEI", "LHI", "LLI", "LMI", "ADI", "ACI", "SUI", "SBI", "NDI", "XRI", "ORI",
      "CPI"] →
    digits ≠ [] → hexValueFrom 0 digits = some v →
    (0xFF < v → encodeLine Isd.default t (.instr m [['#', '$'] ++ digits]) = .error .oversizeImmediate) ∧
    (v ≤ 0xFF → ∃ e, lookupByMnemonic Isd.default m = some e ∧
      encodeLine Isd.default t (.instr m [['#', '$'] ++ digits]) = .ok [e.opcode, BitVec.ofNat 8 v])
end

