-- ==== Sys2Proof/Laws/Encoding.lean ====
section
/-! SUPPORT. The laws of the byte order (R36, R55): an address and its two bytes determine each other. -/

namespace Sys2Proof

theorem addrOfBytes_toNat (lo hi : Byte) : (addrOfBytes lo hi).toNat = 256 * hi.toNat + lo.toNat := by
  simp only [addrOfBytes, BitVec.toNat_append]
  rw [← Nat.shiftLeft_add_eq_or_of_lt (by omega), Nat.shiftLeft_eq]
  omega

theorem lowByte_toNat (a : Addr) : (lowByte a).toNat = a.toNat % 256 := by
  simp [lowByte]

theorem highByte_toNat (a : Addr) : (highByte a).toNat = a.toNat / 256 := by
  simp only [highByte, BitVec.extractLsb'_toNat, Nat.shiftRight_eq_div_pow]
  omega

/-- The bytes of an address, put together again, are the address. -/
@[simp] theorem addrOfBytes_lowByte_highByte (a : Addr) : addrOfBytes (lowByte a) (highByte a) = a := by
  apply BitVec.eq_of_toNat_eq
  rw [addrOfBytes_toNat, lowByte_toNat, highByte_toNat]
  omega

@[simp] theorem lowByte_addrOfBytes (lo hi : Byte) : lowByte (addrOfBytes lo hi) = lo := by
  apply BitVec.eq_of_toNat_eq
  rw [lowByte_toNat, addrOfBytes_toNat]
  omega

@[simp] theorem highByte_addrOfBytes (lo hi : Byte) : highByte (addrOfBytes lo hi) = hi := by
  apply BitVec.eq_of_toNat_eq
  rw [highByte_toNat, addrOfBytes_toNat]
  omega

/-- The bytes of an absolute instruction decode to the instruction its opcode selects, with its target (R55). -/
theorem decode_absoluteBytes {op : Byte} {mk : Addr → Instr} (h : decodeOpcode op = some (.absolute mk)) (target : Addr)
    (rest : List Byte) : decode (absoluteBytes op target ++ rest) = .ok (mk target, rest) := by
  simp [absoluteBytes, decode, decodeForm, h]

end Sys2Proof
end

