-- ==== Sys2Proof/Laws/Isd.lean ====
section
/-! SUPPORT. The laws of an ISD: the default table, every table as an `Isd`, and the decoder of the default ISD. -/

namespace Sys2Proof

@[simp] theorem lookupByOpcode_default (op : Byte) : lookupByOpcode Isd.default op = defaultEntry op := rfl

theorem mem_allOpcodes (op : Byte) : op ∈ allOpcodes :=
  List.mem_map.2 ⟨op.toNat, List.mem_range.2 op.isLt, by simp⟩

/-- Every table from opcodes to entries is the table of some `Isd` (R5). -/
@[simp] theorem lookupByOpcode_ofFn (f : Byte → Option InstructionSpec) (op : Byte) :
    lookupByOpcode (Isd.ofFn f) op = f op := by
  have hp : ((allOpcodes.map fun o => (o, f o)).find? fun row => row.1 == op) = some (op, f op) := by
    rw [List.find?_map]
    have : allOpcodes.find? ((fun row : Byte × Option InstructionSpec => row.1 == op) ∘ fun o => (o, f o)) = some op := by
      have h := List.find?_isSome (p := fun o : Byte => o == op) (xs := allOpcodes)
      obtain ⟨o, ho⟩ := Option.isSome_iff_exists.1 (h.2 ⟨op, mem_allOpcodes op, by simp⟩)
      have := List.find?_some ho
      simp only [beq_iff_eq] at this
      exact this ▸ ho
    rw [this]; rfl
  unfold lookupByOpcode Isd.ofFn
  rw [hp]

/-- What it says of an ISD that it meets the constraints: every entry does, and the named mnemonics have one (R64). -/
theorem Isd.meets_iff {p : Params} {isd : Isd} :
    isd.meets p ↔ (∀ op e, lookupByOpcode isd op = some e → e.meets p op) ∧
      ∀ d ∈ documentModes, (lookupByMnemonic isd d.1).isSome := by
  have : ((allOpcodes.all fun op => (lookupByOpcode isd op).all fun e => decide (e.meets p op)) = true) ↔
      ∀ op e, lookupByOpcode isd op = some e → e.meets p op := by
    rw [List.all_eq_true]
    refine forall_congr' fun op => ?_
    rw [Option.all_eq_true]
    exact ⟨fun h e he => of_decide_eq_true (h (mem_allOpcodes op) e he), fun h _ e he => decide_eq_true (h e he)⟩
  unfold Isd.meets
  rw [this]

theorem Cost.value_congr {p q : Params} (h : p.cycCond = q.cycCond) (c : Cost) : c.value p = c.value q := by
  cases c
  · rfl
  · exact h

/-- Of the parameters the constraints on an ISD read `CYC_COND` alone. -/
theorem Isd.meets_congr {p q : Params} (h : p.cycCond = q.cycCond) {isd : Isd} : isd.meets p ↔ isd.meets q := by
  simp only [Isd.meets_iff, InstructionSpec.meets, Cost.value_congr h]

/-- An entry of the default table is for its opcode, performs the rule of that opcode, and has its form. -/
theorem defaultEntry_some {op : Byte} {e : InstructionSpec} (h : defaultEntry op = some e) :
    e.opcode = op ∧ e.rule = op ∧ e.form = decodeOpcode op ∧ e.size = e.mode.size ∧ e.mode ≠ .relative := by
  unfold defaultEntry at h
  split at h
  · cases h
  · next form hf =>
    split at h
    · cases h
    · next i hi =>
      obtain rfl := Option.some.inj h
      refine ⟨rfl, rfl, ?_, rfl, ?_⟩
      · rcases form with i | mk | mk | _ <;> simp_all [InstructionSpec.form, formMode, formInstr]
      · rcases form with i | mk | mk | _ <;> simp_all [formMode, formInstr]

end Sys2Proof
end

