-- ==== Sys2Proof/Laws/State.lean ====
section
/-! SUPPORT. One lemma per field per update of the state, and the register file read after a write. -/

namespace Sys2Proof.Machine

@[simp] theorem State.setReg_regs (s : State) (r : Reg) (v : Byte) : (s.setReg r v).regs = s.regs.set r v := rfl
@[simp] theorem State.setReg_flags (s : State) (r : Reg) (v : Byte) : (s.setReg r v).flags = s.flags := rfl
@[simp] theorem State.setReg_pc (s : State) (r : Reg) (v : Byte) : (s.setReg r v).pc = s.pc := rfl
@[simp] theorem State.setReg_sp (s : State) (r : Reg) (v : Byte) : (s.setReg r v).sp = s.sp := rfl
@[simp] theorem State.setReg_mem (s : State) (r : Reg) (v : Byte) : (s.setReg r v).mem = s.mem := rfl
@[simp] theorem State.setReg_cyc (s : State) (r : Reg) (v : Byte) : (s.setReg r v).cyc = s.cyc := rfl
@[simp] theorem State.setReg_cfg (s : State) (r : Reg) (v : Byte) : (s.setReg r v).cfg = s.cfg := rfl

@[simp] theorem State.setFlags_regs (s : State) (f : Flags) : (s.setFlags f).regs = s.regs := rfl
@[simp] theorem State.setFlags_flags (s : State) (f : Flags) : (s.setFlags f).flags = f := rfl
@[simp] theorem State.setFlags_pc (s : State) (f : Flags) : (s.setFlags f).pc = s.pc := rfl
@[simp] theorem State.setFlags_sp (s : State) (f : Flags) : (s.setFlags f).sp = s.sp := rfl
@[simp] theorem State.setFlags_mem (s : State) (f : Flags) : (s.setFlags f).mem = s.mem := rfl
@[simp] theorem State.setFlags_cyc (s : State) (f : Flags) : (s.setFlags f).cyc = s.cyc := rfl
@[simp] theorem State.setFlags_cfg (s : State) (f : Flags) : (s.setFlags f).cfg = s.cfg := rfl

@[simp] theorem State.setPc_regs (s : State) (a : Addr) : (s.setPc a).regs = s.regs := rfl
@[simp] theorem State.setPc_flags (s : State) (a : Addr) : (s.setPc a).flags = s.flags := rfl
@[simp] theorem State.setPc_pc (s : State) (a : Addr) : (s.setPc a).pc = a := rfl
@[simp] theorem State.setPc_sp (s : State) (a : Addr) : (s.setPc a).sp = s.sp := rfl
@[simp] theorem State.setPc_mem (s : State) (a : Addr) : (s.setPc a).mem = s.mem := rfl
@[simp] theorem State.setPc_cyc (s : State) (a : Addr) : (s.setPc a).cyc = s.cyc := rfl
@[simp] theorem State.setPc_cfg (s : State) (a : Addr) : (s.setPc a).cfg = s.cfg := rfl

@[simp] theorem State.setSp_regs (s : State) (v : Byte) : (s.setSp v).regs = s.regs := rfl
@[simp] theorem State.setSp_flags (s : State) (v : Byte) : (s.setSp v).flags = s.flags := rfl
@[simp] theorem State.setSp_pc (s : State) (v : Byte) : (s.setSp v).pc = s.pc := rfl
@[simp] theorem State.setSp_sp (s : State) (v : Byte) : (s.setSp v).sp = v := rfl
@[simp] theorem State.setSp_mem (s : State) (v : Byte) : (s.setSp v).mem = s.mem := rfl
@[simp] theorem State.setSp_cyc (s : State) (v : Byte) : (s.setSp v).cyc = s.cyc := rfl
@[simp] theorem State.setSp_cfg (s : State) (v : Byte) : (s.setSp v).cfg = s.cfg := rfl

@[simp] theorem State.setMem_regs (s : State) (m : Memory) : (s.setMem m).regs = s.regs := rfl
@[simp] theorem State.setMem_flags (s : State) (m : Memory) : (s.setMem m).flags = s.flags := rfl
@[simp] theorem State.setMem_pc (s : State) (m : Memory) : (s.setMem m).pc = s.pc := rfl
@[simp] theorem State.setMem_sp (s : State) (m : Memory) : (s.setMem m).sp = s.sp := rfl
@[simp] theorem State.setMem_mem (s : State) (m : Memory) : (s.setMem m).mem = m := rfl
@[simp] theorem State.setMem_cyc (s : State) (m : Memory) : (s.setMem m).cyc = s.cyc := rfl
@[simp] theorem State.setMem_cfg (s : State) (m : Memory) : (s.setMem m).cfg = s.cfg := rfl

@[simp] theorem State.addCycles_regs (s : State) (n : Nat) : (s.addCycles n).regs = s.regs := rfl
@[simp] theorem State.addCycles_flags (s : State) (n : Nat) : (s.addCycles n).flags = s.flags := rfl
@[simp] theorem State.addCycles_pc (s : State) (n : Nat) : (s.addCycles n).pc = s.pc := rfl
@[simp] theorem State.addCycles_sp (s : State) (n : Nat) : (s.addCycles n).sp = s.sp := rfl
@[simp] theorem State.addCycles_mem (s : State) (n : Nat) : (s.addCycles n).mem = s.mem := rfl
@[simp] theorem State.addCycles_cyc (s : State) (n : Nat) : (s.addCycles n).cyc = s.cyc + n := rfl
@[simp] theorem State.addCycles_cfg (s : State) (n : Nat) : (s.addCycles n).cfg = s.cfg := rfl

@[simp] theorem State.setReg_getFlag (s : State) (r : Reg) (v : Byte) (g : FlagName) : (s.setReg r v).getFlag g = s.getFlag g := by
  cases g <;> rfl
@[simp] theorem State.setReg_ioAddr (s : State) (r : Reg) (v : Byte) (p : Port) : (s.setReg r v).ioAddr p = s.ioAddr p := rfl
@[simp] theorem State.setFlags_getReg (s : State) (f : Flags) (r : Reg) : (s.setFlags f).getReg r = s.getReg r := by
  cases r <;> rfl
@[simp] theorem State.setFlags_hl (s : State) (f : Flags) : (s.setFlags f).hl = s.hl := rfl
@[simp] theorem State.setFlags_ioAddr (s : State) (f : Flags) (p : Port) : (s.setFlags f).ioAddr p = s.ioAddr p := rfl
@[simp] theorem State.setPc_getReg (s : State) (a : Addr) (r : Reg) : (s.setPc a).getReg r = s.getReg r := by
  cases r <;> rfl
@[simp] theorem State.setPc_getFlag (s : State) (a : Addr) (g : FlagName) : (s.setPc a).getFlag g = s.getFlag g := by
  cases g <;> rfl
@[simp] theorem State.setPc_hl (s : State) (a : Addr) : (s.setPc a).hl = s.hl := rfl
@[simp] theorem State.setPc_ioAddr (s : State) (a : Addr) (p : Port) : (s.setPc a).ioAddr p = s.ioAddr p := rfl
@[simp] theorem State.setSp_getReg (s : State) (v : Byte) (r : Reg) : (s.setSp v).getReg r = s.getReg r := by
  cases r <;> rfl
@[simp] theorem State.setSp_getFlag (s : State) (v : Byte) (g : FlagName) : (s.setSp v).getFlag g = s.getFlag g := by
  cases g <;> rfl
@[simp] theorem State.setSp_hl (s : State) (v : Byte) : (s.setSp v).hl = s.hl := rfl
@[simp] theorem State.setSp_ioAddr (s : State) (v : Byte) (p : Port) : (s.setSp v).ioAddr p = s.ioAddr p := rfl
@[simp] theorem State.setMem_getReg (s : State) (m : Memory) (r : Reg) : (s.setMem m).getReg r = s.getReg r := by
  cases r <;> rfl
@[simp] theorem State.setMem_getFlag (s : State) (m : Memory) (g : FlagName) : (s.setMem m).getFlag g = s.getFlag g := by
  cases g <;> rfl
@[simp] theorem State.setMem_hl (s : State) (m : Memory) : (s.setMem m).hl = s.hl := rfl
@[simp] theorem State.setMem_ioAddr (s : State) (m : Memory) (p : Port) : (s.setMem m).ioAddr p = s.ioAddr p := rfl
@[simp] theorem State.addCycles_getReg (s : State) (n : Nat) (r : Reg) : (s.addCycles n).getReg r = s.getReg r := by
  cases r <;> rfl
@[simp] theorem State.addCycles_getFlag (s : State) (n : Nat) (g : FlagName) : (s.addCycles n).getFlag g = s.getFlag g := by
  cases g <;> rfl
@[simp] theorem State.addCycles_hl (s : State) (n : Nat) : (s.addCycles n).hl = s.hl := rfl
@[simp] theorem State.addCycles_ioAddr (s : State) (n : Nat) (p : Port) : (s.addCycles n).ioAddr p = s.ioAddr p := rfl

/-- A register reads as written, every other register as before (R10: none is hardwired, none is banked). -/
theorem State.getReg_setReg (s : State) (r r' : Reg) (v : Byte) :
    (s.setReg r v).getReg r' = if r' = r then v else s.getReg r' := by
  cases r <;> cases r' <;> rfl

@[simp] theorem State.getReg_setReg_self (s : State) (r : Reg) (v : Byte) : (s.setReg r v).getReg r = v := by
  simp [State.getReg_setReg]

theorem State.getReg_setReg_of_ne (s : State) {r r' : Reg} (h : r' ≠ r) (v : Byte) :
    (s.setReg r v).getReg r' = s.getReg r' := by
  simp [State.getReg_setReg, h]

@[simp] theorem State.getReg_a (s : State) : s.getReg .a = s.regs.a := rfl

end Sys2Proof.Machine
end

