-- ==== Sys2Proof/Laws/Ops.lean ====
section
/-! SUPPORT. For each shared operation, what it can do: when it answers a state, which one, and when it faults. -/

namespace Sys2Proof.Machine

variable {s t : State} {f : Fault}

/-! ## Memory and stack accesses -/

theorem memRead_ok {a : Addr} {v : Byte} :
    memRead s a = .ok v ↔ a.toNat < s.cfg.memSize ∧ v = Memory.read s.mem a.toNat := by
  unfold memRead; split <;> simp_all [eq_comm]

theorem memRead_error {a : Addr} :
    memRead s a = .error f ↔ s.cfg.memSize ≤ a.toNat ∧ f = .memoryBounds a.toNat := by
  unfold memRead; split <;> simp_all [eq_comm]

theorem memRead_of_lt {a : Addr} (h : a.toNat < s.cfg.memSize) : memRead s a = .ok (Memory.read s.mem a.toNat) :=
  if_pos h

theorem memRead_of_ge {a : Addr} (h : s.cfg.memSize ≤ a.toNat) : memRead s a = .error (.memoryBounds a.toNat) :=
  if_neg (by omega)

theorem memWrite_ok {a : Addr} {v : Byte} :
    memWrite s a v = .ok t ↔ a.toNat < s.cfg.memSize ∧ t = s.setMem (Memory.write s.mem a.toNat v) := by
  unfold memWrite; split <;> simp_all [eq_comm]

theorem memWrite_error {a : Addr} {v : Byte} :
    memWrite s a v = .error f ↔ s.cfg.memSize ≤ a.toNat ∧ f = .memoryBounds a.toNat := by
  unfold memWrite; split <;> simp_all [eq_comm]

theorem memWrite_of_lt {a : Addr} {v : Byte} (h : a.toNat < s.cfg.memSize) :
    memWrite s a v = .ok (s.setMem (Memory.write s.mem a.toNat v)) := if_pos h

theorem memWrite_of_ge {a : Addr} {v : Byte} (h : s.cfg.memSize ≤ a.toNat) :
    memWrite s a v = .error (.memoryBounds a.toNat) := if_neg (by omega)

@[simp] theorem slotAddr_toNat (b : Byte) : (slotAddr b).toNat = b.toNat := by
  simp [slotAddr]; omega

theorem push16_ok {v : Addr} :
    push16 v s = .ok t ↔
      (s.sp - 1#8).toNat < s.cfg.memSize ∧ (s.sp - 2#8).toNat < s.cfg.memSize ∧
      t = (s.setMem (Memory.write (Memory.write s.mem (s.sp - 1#8).toNat (highByte v)) (s.sp - 2#8).toNat
        (lowByte v))).setSp (s.sp - 2#8) := by
  simp only [push16, slotAddr_toNat]
  split
  · next h => exact ⟨nofun, fun ⟨h', _⟩ => absurd h' (Nat.not_lt.2 h)⟩
  · split
    · next h => exact ⟨nofun, fun ⟨_, h', _⟩ => absurd h' (Nat.not_lt.2 h)⟩
    · next h1 h2 =>
      exact ⟨fun h => ⟨Nat.not_le.1 h1, Nat.not_le.1 h2, (Except.ok.inj h).symm⟩, fun ⟨_, _, h⟩ => h ▸ rfl⟩

theorem pop16_ok {a : Addr} :
    pop16 s = .ok (a, t) ↔
      s.sp.toNat < s.cfg.memSize ∧ (s.sp + 1#8).toNat < s.cfg.memSize ∧
      a = addrOfBytes (Memory.read s.mem s.sp.toNat) (Memory.read s.mem (s.sp + 1#8).toNat) ∧
      t = s.setSp (s.sp + 2#8) := by
  simp only [pop16, slotAddr_toNat]
  split
  · next h => exact ⟨nofun, fun ⟨h', _⟩ => absurd h' (Nat.not_lt.2 h)⟩
  · split
    · next h => exact ⟨nofun, fun ⟨_, h', _⟩ => absurd h' (Nat.not_lt.2 h)⟩
    · next h1 h2 =>
      refine ⟨fun h => ?_, fun ⟨_, _, ha, ht⟩ => ha ▸ ht ▸ rfl⟩
      obtain ⟨ha, ht⟩ := Prod.mk.inj (Except.ok.inj h)
      exact ⟨Nat.not_le.1 h1, Nat.not_le.1 h2, ha.symm, ht.symm⟩

/-! ## The frame of an instruction -/

/-- An instruction answers a next state exactly when its operation does; that state has the cost added (R60). -/
theorem perform_next {n c : Nat} {op : State → Except Fault State} :
    perform n c op s = .next t ↔ ∃ u, op (s.setPc (s.pc + BitVec.ofNat 16 n)) = .ok u ∧ t = u.addCycles c := by
  unfold perform
  cases op (s.setPc (s.pc + BitVec.ofNat 16 n)) <;> simp [raise, eq_comm]

/-- An instruction faults exactly when its operation does, with the same fault (R243). -/
theorem perform_fault {n c : Nat} {op : State → Except Fault State} :
    perform n c op s = .fault f ↔ op (s.setPc (s.pc + BitVec.ofNat 16 n)) = .error f := by
  unfold perform
  cases op (s.setPc (s.pc + BitVec.ofNat 16 n)) <;> simp [raise, eq_comm]

theorem perform_ne_refused {n c : Nat} {op : State → Except Fault State} {r : Refusal} :
    perform n c op s ≠ .refused r := by
  unfold perform; split <;> simp [raise]

theorem implied_eq (c : Nat) (op : State → Except Fault State) : implied c op s = perform 1 c op s := rfl

theorem immediate_eq (c : Nat) (op : State → Except Fault State) : immediate c op s = perform 2 c op s := rfl

theorem absolute_eq (c : Nat) (op : State → Except Fault State) : absolute c op s = perform 3 c op s := rfl

/-! ## The operations -/

theorem opNothing_ok : opNothing s = .ok t ↔ t = s := by simp [opNothing, eq_comm]

theorem opMove_ok {dst src : Reg} : opMove dst src s = .ok t ↔ t = s.setReg dst (s.getReg src) := by simp [opMove, eq_comm]

theorem opLoadFrom_ok {a : Addr} {dst : Reg} :
    opLoadFrom a dst s = .ok t ↔ a.toNat < s.cfg.memSize ∧ t = s.setReg dst (Memory.read s.mem a.toNat) := by
  unfold opLoadFrom memRead; split <;> split at * <;> simp_all [eq_comm]

theorem opLoad_ok {dst : Reg} :
    opLoad dst s = .ok t ↔ s.hl.toNat < s.cfg.memSize ∧ t = s.setReg dst (Memory.read s.mem s.hl.toNat) := opLoadFrom_ok

theorem opStore_ok {r : Reg} :
    opStore r s = .ok t ↔
      s.hl.toNat < s.cfg.memSize ∧ t = s.setMem (Memory.write s.mem s.hl.toNat (s.getReg r)) := memWrite_ok

theorem opLoadImm_ok {dst : Reg} {v : Byte} : opLoadImm dst v s = .ok t ↔ t = s.setReg dst v := by
  simp [opLoadImm, eq_comm]

theorem opStoreImm_ok {v : Byte} :
    opStoreImm v s = .ok t ↔ s.hl.toNat < s.cfg.memSize ∧ t = s.setMem (Memory.write s.mem s.hl.toNat v) := memWrite_ok

theorem opJump_ok {a : Addr} : opJump a s = .ok t ↔ t = s.setPc a := by simp [opJump, eq_comm]

theorem opJumpIf_ok {g : FlagName} {b : Bool} {a : Addr} :
    opJumpIf g b a s = .ok t ↔ t = if s.getFlag g = b then s.setPc a else s := by
  unfold opJumpIf opJump; split <;> simp [eq_comm]

theorem opCall_ok {a : Addr} : opCall a s = .ok t ↔ ∃ u, push16 s.pc s = .ok u ∧ t = u.setPc a := by
  unfold opCall
  cases push16 s.pc s <;> simp [eq_comm]

theorem opCallIf_ok {g : FlagName} {b : Bool} {a : Addr} :
    opCallIf g b a s = .ok t ↔
      (s.getFlag g = b ∧ ∃ u, push16 s.pc s = .ok u ∧ t = u.setPc a) ∨ (s.getFlag g ≠ b ∧ t = s) := by
  unfold opCallIf
  by_cases h : s.getFlag g = b
  · simp [h, opCall_ok]
  · simp [h, eq_comm]

theorem opReturn_ok : opReturn s = .ok t ↔ ∃ a u, pop16 s = .ok (a, u) ∧ t = u.setPc a := by
  unfold opReturn
  rcases pop16 s with f | ⟨a, u⟩ <;> simp [eq_comm]

theorem opInput_ok {p : Port} :
    opInput p s = .ok t ↔
      (s.ioAddr p).toNat < s.cfg.memSize ∧ t = s.setReg .a (Memory.read s.mem (s.ioAddr p).toNat) := opLoadFrom_ok

theorem opOutput_ok {p : Port} :
    opOutput p s = .ok t ↔
      (s.ioAddr p).toNat < s.cfg.memSize ∧ t = s.setMem (Memory.write s.mem (s.ioAddr p).toNat s.regs.a) := memWrite_ok

theorem opAlu_ok {op : AluOp} {o : Operand} :
    opAlu op o s = .ok t ↔ ∃ v, readOperand o s = .ok v ∧ t = applyAlu op v s := by
  unfold opAlu
  cases readOperand o s <;> simp [eq_comm]

theorem opIncrement_ok {r : Reg} :
    opIncrement r s = .ok t ↔
      t = (s.setReg r (s.getReg r + 1#8)).setFlags (s.flags.setZSP (s.getReg r + 1#8)) := by
  simp [opIncrement, eq_comm]

theorem opDecrement_ok {r : Reg} :
    opDecrement r s = .ok t ↔
      t = (s.setReg r (s.getReg r - 1#8)).setFlags (s.flags.setZSP (s.getReg r - 1#8)) := by
  simp [opDecrement, eq_comm]

theorem opRotate_ok {g : Byte → Bool → Byte × Bool} :
    opRotate g s = .ok t ↔
      t = (s.setReg .a (g s.regs.a s.flags.cf).1).setFlags { s.flags with cf := (g s.regs.a s.flags.cf).2 } := by
  simp [opRotate, eq_comm]

/-! ## What an accumulator operation leaves alone -/

@[simp] theorem applyAlu_pc (op : AluOp) (v : Byte) : (applyAlu op v s).pc = s.pc := by
  unfold applyAlu; split <;> rfl

@[simp] theorem applyAlu_sp (op : AluOp) (v : Byte) : (applyAlu op v s).sp = s.sp := by
  unfold applyAlu; split <;> rfl

@[simp] theorem applyAlu_mem (op : AluOp) (v : Byte) : (applyAlu op v s).mem = s.mem := by
  unfold applyAlu; split <;> rfl

@[simp] theorem applyAlu_cyc (op : AluOp) (v : Byte) : (applyAlu op v s).cyc = s.cyc := by
  unfold applyAlu; split <;> rfl

@[simp] theorem applyAlu_cfg (op : AluOp) (v : Byte) : (applyAlu op v s).cfg = s.cfg := by
  unfold applyAlu; split <;> rfl

theorem applyAlu_getReg (op : AluOp) (v : Byte) {r : Reg} (h : r ≠ .a) :
    (applyAlu op v s).getReg r = s.getReg r := by
  unfold applyAlu; split <;> simp [State.getReg_setReg_of_ne _ h]

/-! ## The step -/

/-- Charging keeps what an outcome is, and in a next state sets the cycle counter alone. -/
theorem charge_next {e : InstructionSpec} {o : Result} :
    charge e s o = .next t ↔ ∃ u, o = .next u ∧ t = { u with cyc := s.cyc + e.cost.value s.cfg } := by
  cases o <;> simp [charge, eq_comm]

theorem charge_fault {e : InstructionSpec} {o : Result} : charge e s o = .fault f ↔ o = .fault f := by
  cases o <;> simp [charge]

/-- A step answers a next state exactly when the instruction it fetches does, with the declared cost charged (R60). -/
theorem step_next :
    step s = .next t ↔
      ∃ e i u, fetch s = .ok (e, i) ∧ exec i s = .next u ∧ t = { u with cyc := s.cyc + e.cost.value s.cfg } := by
  unfold step
  split
  · next e i h => simp [h, charge_next]
  · next g h => simp [h, raise]

/-- A step faults exactly when its fetch does, or the instruction it fetches (R60, R244). -/
theorem step_fault :
    step s = .fault f ↔ fetch s = .error f ∨ ∃ e i, fetch s = .ok (e, i) ∧ exec i s = .fault f := by
  unfold step
  split
  · next e i h => simp [h, charge_fault]
  · next g h => simp [h, raise]

end Sys2Proof.Machine
end

