-- ==== Sys2Proof/Laws/PerInstr.lean ====
section
/-! SUPPORT. A statement made for every constructor: an instruction is one, two or three bytes long (R51). -/

namespace Sys2Proof.Laws.EncodedLength

/-- The encoding of an instruction has one, two or three bytes (R51). -/
def Statement (i : Instr) : Prop := (encode i).length = 1 ∨ (encode i).length = 2 ∨ (encode i).length = 3

theorem hlt (x : BitVec 1) : Statement (.hlt x) := .inl rfl
theorem rlc : Statement .rlc := .inl rfl
theorem adi (imm : Byte) : Statement (.adi imm) := .inr (.inl rfl)
theorem lai (imm : Byte) : Statement (.lai imm) := .inr (.inl rfl)
theorem ret (x : BitVec 3) : Statement (.ret x) := .inl rfl
theorem inb : Statement .inb := .inl rfl
theorem dcb : Statement .dcb := .inl rfl
theorem rrc : Statement .rrc := .inl rfl
theorem aci (imm : Byte) : Statement (.aci imm) := .inr (.inl rfl)
theorem lbi (imm : Byte) : Statement (.lbi imm) := .inr (.inl rfl)
theorem inc : Statement .inc := .inl rfl
theorem dcc : Statement .dcc := .inl rfl
theorem ral : Statement .ral := .inl rfl
theorem sui (imm : Byte) : Statement (.sui imm) := .inr (.inl rfl)
theorem lci (imm : Byte) : Statement (.lci imm) := .inr (.inl rfl)
theorem ind : Statement .ind := .inl rfl
theorem dcd : Statement .dcd := .inl rfl
theorem rar : Statement .rar := .inl rfl
theorem sbi (imm : Byte) : Statement (.sbi imm) := .inr (.inl rfl)
theorem ldi (imm : Byte) : Statement (.ldi imm) := .inr (.inl rfl)
theorem ine : Statement .ine := .inl rfl
theorem dce : Statement .dce := .inl rfl
theorem ndi (imm : Byte) : Statement (.ndi imm) := .inr (.inl rfl)
theorem lei (imm : Byte) : Statement (.lei imm) := .inr (.inl rfl)
theorem inh : Statement .inh := .inl rfl
theorem dch : Statement .dch := .inl rfl
theorem xri (imm : Byte) : Statement (.xri imm) := .inr (.inl rfl)
theorem lhi (imm : Byte) : Statement (.lhi imm) := .inr (.inl rfl)
theorem inl : Statement .inl := .inl rfl
theorem dcl : Statement .dcl := .inl rfl
theorem ori (imm : Byte) : Statement (.ori imm) := .inr (.inl rfl)
theorem lli (imm : Byte) : Statement (.lli imm) := .inr (.inl rfl)
theorem cpi (imm : Byte) : Statement (.cpi imm) := .inr (.inl rfl)
theorem lmi (imm : Byte) : Statement (.lmi imm) := .inr (.inl rfl)
theorem jfc (target : Addr) : Statement (.jfc target) := .inr (.inr rfl)
theorem inp (port : Port) : Statement (.inp port) := .inl rfl
theorem cfc (target : Addr) : Statement (.cfc target) := .inr (.inr rfl)
theorem jmp (x : BitVec 3) (target : Addr) : Statement (.jmp x target) := .inr (.inr rfl)
theorem cal (x : BitVec 3) (target : Addr) : Statement (.cal x target) := .inr (.inr rfl)
theorem jfz (target : Addr) : Statement (.jfz target) := .inr (.inr rfl)
theorem cfz (target : Addr) : Statement (.cfz target) := .inr (.inr rfl)
theorem jfs (target : Addr) : Statement (.jfs target) := .inr (.inr rfl)
theorem out8 (port : Port) : Statement (.out8 port) := .inl rfl
theorem cfs (target : Addr) : Statement (.cfs target) := .inr (.inr rfl)
theorem jfp (target : Addr) : Statement (.jfp target) := .inr (.inr rfl)
theorem cfp (target : Addr) : Statement (.cfp target) := .inr (.inr rfl)
theorem jtc (target : Addr) : Statement (.jtc target) := .inr (.inr rfl)
theorem out16 (port : Port) : Statement (.out16 port) := .inl rfl
theorem ctc (target : Addr) : Statement (.ctc target) := .inr (.inr rfl)
theorem jtz (target : Addr) : Statement (.jtz target) := .inr (.inr rfl)
theorem ctz (target : Addr) : Statement (.ctz target) := .inr (.inr rfl)
theorem jts (target : Addr) : Statement (.jts target) := .inr (.inr rfl)
theorem out24 (port : Port) : Statement (.out24 port) := .inl rfl
theorem cts (target : Addr) : Statement (.cts target) := .inr (.inr rfl)
theorem jtp (target : Addr) : Statement (.jtp target) := .inr (.inr rfl)
theorem ctp (target : Addr) : Statement (.ctp target) := .inr (.inr rfl)
theorem ada : Statement .ada := .inl rfl
theorem adb : Statement .adb := .inl rfl
theorem adc : Statement .adc := .inl rfl
theorem add : Statement .add := .inl rfl
theorem ade : Statement .ade := .inl rfl
theorem adh : Statement .adh := .inl rfl
theorem adl : Statement .adl := .inl rfl
theorem adm : Statement .adm := .inl rfl
theorem aca : Statement .aca := .inl rfl
theorem acb : Statement .acb := .inl rfl
theorem acc : Statement .acc := .inl rfl
theorem acd : Statement .acd := .inl rfl
theorem ace : Statement .ace := .inl rfl
theorem ach : Statement .ach := .inl rfl
theorem acl : Statement .acl := .inl rfl
theorem acm : Statement .acm := .inl rfl
theorem sua : Statement .sua := .inl rfl
theorem sub : Statement .sub := .inl rfl
theorem suc : Statement .suc := .inl rfl
theorem sud : Statement .sud := .inl rfl
theorem sue : Statement .sue := .inl rfl
theorem suh : Statement .suh := .inl rfl
theorem sul : Statement .sul := .inl rfl
theorem sum : Statement .sum := .inl rfl
theorem sba : Statement .sba := .inl rfl
theorem sbb : Statement .sbb := .inl rfl
theorem sbc : Statement .sbc := .inl rfl
theorem sbd : Statement .sbd := .inl rfl
theorem sbe : Statement .sbe := .inl rfl
theorem sbh : Statement .sbh := .inl rfl
theorem sbl : Statement .sbl := .inl rfl
theorem sbm : Statement .sbm := .inl rfl
theorem nda : Statement .nda := .inl rfl
theorem ndb : Statement .ndb := .inl rfl
theorem ndc : Statement .ndc := .inl rfl
theorem ndd : Statement .ndd := .inl rfl
theorem nde : Statement .nde := .inl rfl
theorem ndh : Statement .ndh := .inl rfl
theorem ndl : Statement .ndl := .inl rfl
theorem ndm : Statement .ndm := .inl rfl
theorem xra : Statement .xra := .inl rfl
theorem xrb : Statement .xrb := .inl rfl
theorem xrc : Statement .xrc := .inl rfl
theorem xrd : Statement .xrd := .inl rfl
theorem xre : Statement .xre := .inl rfl
theorem xrh : Statement .xrh := .inl rfl
theorem xrl : Statement .xrl := .inl rfl
theorem xrm : Statement .xrm := .inl rfl
theorem ora : Statement .ora := .inl rfl
theorem orb : Statement .orb := .inl rfl
theorem orc : Statement .orc := .inl rfl
theorem ord : Statement .ord := .inl rfl
theorem ore : Statement .ore := .inl rfl
theorem orh : Statement .orh := .inl rfl
theorem orl : Statement .orl := .inl rfl
theorem orm : Statement .orm := .inl rfl
theorem cpa : Statement .cpa := .inl rfl
theorem cpb : Statement .cpb := .inl rfl
theorem cpc : Statement .cpc := .inl rfl
theorem cpd : Statement .cpd := .inl rfl
theorem cpe : Statement .cpe := .inl rfl
theorem cph : Statement .cph := .inl rfl
theorem cpl : Statement .cpl := .inl rfl
theorem cpm : Statement .cpm := .inl rfl
theorem nop : Statement .nop := .inl rfl
theorem lab : Statement .lab := .inl rfl
theorem lac : Statement .lac := .inl rfl
theorem lad : Statement .lad := .inl rfl
theorem lae : Statement .lae := .inl rfl
theorem lah : Statement .lah := .inl rfl
theorem lal : Statement .lal := .inl rfl
theorem lam : Statement .lam := .inl rfl
theorem lba : Statement .lba := .inl rfl
theorem lbb : Statement .lbb := .inl rfl
theorem lbc : Statement .lbc := .inl rfl
theorem lbd : Statement .lbd := .inl rfl
theorem lbe : Statement .lbe := .inl rfl
theorem lbh : Statement .lbh := .inl rfl
theorem lbl : Statement .lbl := .inl rfl
theorem lbm : Statement .lbm := .inl rfl
theorem lca : Statement .lca := .inl rfl
theorem lcb : Statement .lcb := .inl rfl
theorem lcc : Statement .lcc := .inl rfl
theorem lcd : Statement .lcd := .inl rfl
theorem lce : Statement .lce := .inl rfl
theorem lch : Statement .lch := .inl rfl
theorem lcl : Statement .lcl := .inl rfl
theorem lcm : Statement .lcm := .inl rfl
theorem lda : Statement .lda := .inl rfl
theorem ldb : Statement .ldb := .inl rfl
theorem ldc : Statement .ldc := .inl rfl
theorem ldd : Statement .ldd := .inl rfl
theorem lde : Statement .lde := .inl rfl
theorem ldh : Statement .ldh := .inl rfl
theorem ldl : Statement .ldl := .inl rfl
theorem ldm : Statement .ldm := .inl rfl
theorem lea : Statement .lea := .inl rfl
theorem leb : Statement .leb := .inl rfl
theorem lec : Statement .lec := .inl rfl
theorem led : Statement .led := .inl rfl
theorem lee : Statement .lee := .inl rfl
theorem leh : Statement .leh := .inl rfl
theorem lel : Statement .lel := .inl rfl
theorem lem : Statement .lem := .inl rfl
theorem lha : Statement .lha := .inl rfl
theorem lhb : Statement .lhb := .inl rfl
theorem lhc : Statement .lhc := .inl rfl
theorem lhd : Statement .lhd := .inl rfl
theorem lhe : Statement .lhe := .inl rfl
theorem lhh : Statement .lhh := .inl rfl
theorem lhl : Statement .lhl := .inl rfl
theorem lhm : Statement .lhm := .inl rfl
theorem lla : Statement .lla := .inl rfl
theorem llb : Statement .llb := .inl rfl
theorem llc : Statement .llc := .inl rfl
theorem lld : Statement .lld := .inl rfl
theorem lle : Statement .lle := .inl rfl
theorem llh : Statement .llh := .inl rfl
theorem lll : Statement .lll := .inl rfl
theorem llm : Statement .llm := .inl rfl
theorem lma : Statement .lma := .inl rfl
theorem lmb : Statement .lmb := .inl rfl
theorem lmc : Statement .lmc := .inl rfl
theorem lmd : Statement .lmd := .inl rfl
theorem lme : Statement .lme := .inl rfl
theorem lmh : Statement .lmh := .inl rfl
theorem lml : Statement .lml := .inl rfl
theorem hltFF : Statement .hltFF := .inl rfl

end Sys2Proof.Laws.EncodedLength
end

