-- ==== Sys2Proof/Tests/Slice0.lean ====
section
/-! SUPPORT. Tests. Every expected value is from spec/: the words from the encoding column of the opcode map
(30_encoding.md section 5), the steps and assemblies from 95_test_vectors.md, named after the vector. At the end, for
every obligation with hypotheses, a state and operands that meet them, at a boundary value for each clause. -/

namespace Sys2Proof.Tests

open Sys2Proof Sys2Proof.Machine Sys2Proof.Claims

/-- A register file with the given bytes in the order A, B, C, D, E, H, L. -/
def regs (a b c d e h l : Byte) : Regs := { a := a, b := b, c := c, d := d, e := e, h := h, l := l }

/-- An engine with a memory size, its non-zero bytes, registers, flags (four bits: carry, zero, sign, parity), `pc` and
`sp`. -/
def machine (memSize : Nat) (cells : Memory) (r : Regs) (f : BitVec 4) (pc : Addr) (sp : Byte) : State :=
  { State.create { Params.default with memSize := memSize } with
    mem := cells, regs := r, pc := pc, sp := sp
    flags := { cf := f[3], zf := f[2], sf := f[1], pf := f[0] } }

/-- A fresh engine with a memory size, its non-zero bytes and `pc`. -/
def fresh (memSize : Nat) (cells : Memory) (pc : Addr) : State :=
  { State.create { Params.default with memSize := memSize } with mem := cells, pc := pc }

/-- Whether an outcome is a next state. -/
def completes : Result → Bool
  | .next _ => true
  | .fault _ => false
  | .refused _ => false

/-- Every row's first state steps to its second state with the cycles of the row added, and gives the row's signal. -/
abbrev stepsAll (rows : List (State × State × Nat × Signal)) : Prop :=
  ∀ row ∈ rows, hostStep row.1 = (row.2.1.addCycles row.2.2.1, row.2.2.2)

/-- Every row's bytes decode to the row's instruction, with nothing left. -/
abbrev decodesAll (rows : List (List Byte × Instr)) : Prop := ∀ row ∈ rows, decode row.1 = .ok (row.2, [])

/-! ## Well-formedness: one ill-formed term for each check -/

theorem test_wellFormed_inp : (Instr.inp 7#5).wellFormed = true ∧ (Instr.inp 8#5).wellFormed = false := by decide

theorem test_wellFormed_out8 :
    (Instr.out8 8#5).wellFormed = true ∧ (Instr.out8 15#5).wellFormed = true ∧
    (Instr.out8 7#5).wellFormed = false ∧ (Instr.out8 16#5).wellFormed = false := by decide

theorem test_wellFormed_out16 :
    (Instr.out16 16#5).wellFormed = true ∧ (Instr.out16 23#5).wellFormed = true ∧
    (Instr.out16 15#5).wellFormed = false ∧ (Instr.out16 24#5).wellFormed = false := by decide

theorem test_wellFormed_out24 :
    (Instr.out24 24#5).wellFormed = true ∧ (Instr.out24 31#5).wellFormed = true ∧
    (Instr.out24 23#5).wellFormed = false := by decide

/-! ## Decoding: every constructor, its word written out from the encoding column -/

theorem test_decode_moves_1 : decodesAll [
    ([0b11000000#8], .nop), ([0b11000001#8], .lab), ([0b11000010#8], .lac), ([0b11000011#8], .lad),
    ([0b11000100#8], .lae), ([0b11000101#8], .lah), ([0b11000110#8], .lal), ([0b11001000#8], .lba),
    ([0b11001001#8], .lbb), ([0b11001010#8], .lbc), ([0b11001011#8], .lbd), ([0b11001100#8], .lbe),
    ([0b11001101#8], .lbh), ([0b11001110#8], .lbl), ([0b11010000#8], .lca), ([0b11010001#8], .lcb),
    ([0b11010010#8], .lcc), ([0b11010011#8], .lcd), ([0b11010100#8], .lce), ([0b11010101#8], .lch),
    ([0b11010110#8], .lcl), ([0b11011000#8], .lda), ([0b11011001#8], .ldb), ([0b11011010#8], .ldc),
    ([0b11011011#8], .ldd)] := by decide

theorem test_decode_moves_2 : decodesAll [
    ([0b11011100#8], .lde), ([0b11011101#8], .ldh), ([0b11011110#8], .ldl), ([0b11100000#8], .lea),
    ([0b11100001#8], .leb), ([0b11100010#8], .lec), ([0b11100011#8], .led), ([0b11100100#8], .lee),
    ([0b11100101#8], .leh), ([0b11100110#8], .lel), ([0b11101000#8], .lha), ([0b11101001#8], .lhb),
    ([0b11101010#8], .lhc), ([0b11101011#8], .lhd), ([0b11101100#8], .lhe), ([0b11101101#8], .lhh),
    ([0b11101110#8], .lhl), ([0b11110000#8], .lla), ([0b11110001#8], .llb), ([0b11110010#8], .llc),
    ([0b11110011#8], .lld), ([0b11110100#8], .lle), ([0b11110101#8], .llh), ([0b11110110#8], .lll)] := by decide

theorem test_decode_loads : decodesAll [
    ([0b11000111#8], .lam), ([0b11001111#8], .lbm), ([0b11010111#8], .lcm), ([0b11011111#8], .ldm),
    ([0b11100111#8], .lem), ([0b11101111#8], .lhm), ([0b11110111#8], .llm)] := by decide

theorem test_decode_stores : decodesAll [
    ([0b11111000#8], .lma), ([0b11111001#8], .lmb), ([0b11111010#8], .lmc), ([0b11111011#8], .lmd),
    ([0b11111100#8], .lme), ([0b11111101#8], .lmh), ([0b11111110#8], .lml)] := by decide

theorem test_decode_immediates : decodesAll [
    ([0b00000110#8, 0x5A#8], .lai 0x5A#8), ([0b00001110#8, 0x5A#8], .lbi 0x5A#8),
    ([0b00010110#8, 0x5A#8], .lci 0x5A#8), ([0b00011110#8, 0x5A#8], .ldi 0x5A#8),
    ([0b00100110#8, 0x5A#8], .lei 0x5A#8), ([0b00101110#8, 0x5A#8], .lhi 0x5A#8),
    ([0b00110110#8, 0x5A#8], .lli 0x5A#8), ([0b00111110#8, 0x5A#8], .lmi 0x5A#8)] := by decide

theorem test_decode_increments : decodesAll [
    ([0b00001000#8], .inb), ([0b00001001#8], .dcb), ([0b00010000#8], .inc), ([0b00010001#8], .dcc),
    ([0b00011000#8], .ind), ([0b00011001#8], .dcd), ([0b00100000#8], .ine), ([0b00100001#8], .dce),
    ([0b00101000#8], .inh), ([0b00101001#8], .dch), ([0b00110000#8], .inl), ([0b00110001#8], .dcl)] := by decide

theorem test_decode_alu_register_1 : decodesAll [
    ([0b10000000#8], .ada), ([0b10000001#8], .adb), ([0b10000010#8], .adc), ([0b10000011#8], .add),
    ([0b10000100#8], .ade), ([0b10000101#8], .adh), ([0b10000110#8], .adl), ([0b10001000#8], .aca),
    ([0b10001001#8], .acb), ([0b10001010#8], .acc), ([0b10001011#8], .acd), ([0b10001100#8], .ace),
    ([0b10001101#8], .ach), ([0b10001110#8], .acl), ([0b10010000#8], .sua), ([0b10010001#8], .sub),
    ([0b10010010#8], .suc), ([0b10010011#8], .sud), ([0b10010100#8], .sue), ([0b10010101#8], .suh),
    ([0b10010110#8], .sul), ([0b10011000#8], .sba), ([0b10011001#8], .sbb), ([0b10011010#8], .sbc),
    ([0b10011011#8], .sbd)] := by decide

theorem test_decode_alu_register_2 : decodesAll [
    ([0b10011100#8], .sbe), ([0b10011101#8], .sbh), ([0b10011110#8], .sbl), ([0b10100000#8], .nda),
    ([0b10100001#8], .ndb), ([0b10100010#8], .ndc), ([0b10100011#8], .ndd), ([0b10100100#8], .nde),
    ([0b10100101#8], .ndh), ([0b10100110#8], .ndl), ([0b10101000#8], .xra), ([0b10101001#8], .xrb),
    ([0b10101010#8], .xrc), ([0b10101011#8], .xrd), ([0b10101100#8], .xre), ([0b10101101#8], .xrh),
    ([0b10101110#8], .xrl), ([0b10110000#8], .ora), ([0b10110001#8], .orb), ([0b10110010#8], .orc),
    ([0b10110011#8], .ord), ([0b10110100#8], .ore), ([0b10110101#8], .orh), ([0b10110110#8], .orl),
    ([0b10111000#8], .cpa)] := by decide

theorem test_decode_alu_register_3 : decodesAll [
    ([0b10111001#8], .cpb), ([0b10111010#8], .cpc), ([0b10111011#8], .cpd), ([0b10111100#8], .cpe),
    ([0b10111101#8], .cph), ([0b10111110#8], .cpl)] := by decide

theorem test_decode_alu_memory : decodesAll [
    ([0b10000111#8], .adm), ([0b10001111#8], .acm), ([0b10010111#8], .sum), ([0b10011111#8], .sbm),
    ([0b10100111#8], .ndm), ([0b10101111#8], .xrm), ([0b10110111#8], .orm), ([0b10111111#8], .cpm)] := by decide

theorem test_decode_alu_immediate : decodesAll [
    ([0b00000100#8, 0x5A#8], .adi 0x5A#8), ([0b00001100#8, 0x5A#8], .aci 0x5A#8),
    ([0b00010100#8, 0x5A#8], .sui 0x5A#8), ([0b00011100#8, 0x5A#8], .sbi 0x5A#8),
    ([0b00100100#8, 0x5A#8], .ndi 0x5A#8), ([0b00101100#8, 0x5A#8], .xri 0x5A#8),
    ([0b00110100#8, 0x5A#8], .ori 0x5A#8), ([0b00111100#8, 0x5A#8], .cpi 0x5A#8)] := by decide

theorem test_decode_rotates : decodesAll [
    ([0b00000010#8], .rlc), ([0b00001010#8], .rrc), ([0b00010010#8], .ral), ([0b00011010#8], .rar)] := by decide

theorem test_decode_jumps : decodesAll [
    ([0b01000000#8, 0x34#8, 0x12#8], .jfc 0x1234#16), ([0b01011100#8, 0x34#8, 0x12#8], .jmp 0b011#3 0x1234#16),
    ([0b01001000#8, 0x34#8, 0x12#8], .jfz 0x1234#16), ([0b01010000#8, 0x34#8, 0x12#8], .jfs 0x1234#16),
    ([0b01011000#8, 0x34#8, 0x12#8], .jfp 0x1234#16), ([0b01100000#8, 0x34#8, 0x12#8], .jtc 0x1234#16),
    ([0b01101000#8, 0x34#8, 0x12#8], .jtz 0x1234#16), ([0b01110000#8, 0x34#8, 0x12#8], .jts 0x1234#16),
    ([0b01111000#8, 0x34#8, 0x12#8], .jtp 0x1234#16)] := by decide

theorem test_decode_calls : decodesAll [
    ([0b01000010#8, 0x34#8, 0x12#8], .cfc 0x1234#16), ([0b01110110#8, 0x34#8, 0x12#8], .cal 0b110#3 0x1234#16),
    ([0b01001010#8, 0x34#8, 0x12#8], .cfz 0x1234#16), ([0b01010010#8, 0x34#8, 0x12#8], .cfs 0x1234#16),
    ([0b01011010#8, 0x34#8, 0x12#8], .cfp 0x1234#16), ([0b01100010#8, 0x34#8, 0x12#8], .ctc 0x1234#16),
    ([0b01101010#8, 0x34#8, 0x12#8], .ctz 0x1234#16), ([0b01110010#8, 0x34#8, 0x12#8], .cts 0x1234#16),
    ([0b01111010#8, 0x34#8, 0x12#8], .ctp 0x1234#16)] := by decide

theorem test_decode_halt_return_ports : decodesAll [
    ([0b00000001#8], .hlt 0b1#1), ([0b00101111#8], .ret 0b101#3), ([0b01001011#8], .inp 5#5),
    ([0b01010111#8], .out8 11#5), ([0b01100011#8], .out16 17#5), ([0b01111111#8], .out24 31#5),
    ([0b11111111#8], .hltFF)] := by decide

theorem test_decode_rejects :
    decode [] = .error .noBytes ∧ decode [0x38#8] = .error (.undefinedOpcode 0x38#8) ∧
    decode [0x06#8] = .error (.truncated 0x06#8) ∧ decode [0x44#8, 0x10#8] = .error (.truncated 0x44#8) := by decide

theorem test_encode_puts_low_byte_first : encode (.jmp 0b000#3 0x0210#16) = [0x44#8, 0x10#8, 0x02#8] := by decide

theorem test_decodeTableWord : decodeTableWord 24 0x123444 = some (.jmp 0b000#3 0x1234#16) := by decide

theorem test_withFetchWord_runs : (fetch (State.reset.withFetchWord 24 0x123444)).map (fun r => (r.1.cost, r.2)) =
    .ok (.fixed 11, .jmp 0b000#3 0x1234#16) := by decide

/-! ## Single steps -/

/-- V-LM1, V-LM3, V-LM4, V-LM6, V-LM7, V-LM9, V-LM14, V-LM16, V-LM17, V-LM20. -/
theorem test_steps_moves_loads_stores : stepsAll [
    ((machine 0x10000 [(0x100, 0xC0)] (regs 0 0 0 0 0 0 0) 0b1100 0x100 0x0),
      (machine 0x10000 [(0x100, 0xC0)] (regs 0 0 0 0 0 0 0) 0b1100 0x101 0x0),
      5, .running),
    ((machine 0x10000 [(0x100, 0xC1)] (regs 0x77 0 0 0 0 0 0) 0b0000 0x100 0x0),
      (machine 0x10000 [(0x100, 0xC1)] (regs 0 0 0 0 0 0 0) 0b0000 0x101 0x0),
      5, .running),
    ((machine 0x10000 [(0x100, 0xED)] (regs 0 0 0 0 0 0x12 0) 0b0000 0x100 0x0),
      (machine 0x10000 [(0x100, 0xED)] (regs 0 0 0 0 0 0x12 0) 0b0000 0x101 0x0),
      5, .running),
    ((machine 0x10000 [(0x100, 0xC7), (0x2010, 0x77)] (regs 0 0 0 0 0 0x20 0x10) 0b0000 0x100 0x0),
      (machine 0x10000 [(0x100, 0xC7), (0x2010, 0x77)] (regs 0x77 0 0 0 0 0x20 0x10) 0b0000 0x101 0x0),
      8, .running),
    ((machine 0x10000 [(0x100, 0xEF), (0x2010, 0x30)] (regs 0 0 0 0 0 0x20 0x10) 0b0000 0x100 0x0),
      (machine 0x10000 [(0x100, 0xEF), (0x2010, 0x30)] (regs 0 0 0 0 0 0x30 0x10) 0b0000 0x101 0x0),
      8, .running),
    ((machine 0x10000 [(0x100, 0xF8)] (regs 0x3C 0 0 0 0 0x1 0x80) 0b0000 0x100 0x0),
      (machine 0x10000 [(0x100, 0xF8), (0x180, 0x3C)] (regs 0x3C 0 0 0 0 0x1 0x80) 0b0000 0x101 0x0),
      7, .running),
    ((machine 0x10000 [(0x100, 0x2E), (0x101, 0xFF)] (regs 0 0 0 0 0 0 0x11) 0b0000 0x100 0x0),
      (machine 0x10000 [(0x100, 0x2E), (0x101, 0xFF)] (regs 0 0 0 0 0 0xFF 0x11) 0b0000 0x102 0x0),
      8, .running),
    ((machine 0x10000 [(0x100, 0x3E), (0x101, 0xAA)] (regs 0 0 0 0 0 0x2 0) 0b0000 0x100 0x0),
      (machine 0x10000 [(0x100, 0x3E), (0x101, 0xAA), (0x200, 0xAA)] (regs 0 0 0 0 0 0x2 0) 0b0000 0x102 0x0),
      9, .running),
    ((machine 0x1000 [(0x100, 0xC7)] (regs 0 0 0 0 0 0x10 0) 0b0000 0x100 0x0),
      (machine 0x1000 [(0x100, 0xC7)] (regs 0 0 0 0 0 0x10 0) 0b0000 0x100 0x0),
      0, .fault (.memoryBounds 0x1000)),
    ((machine 0x10000 [(0x0, 0x5), (0xFFFF, 0x6)] (regs 0 0 0 0 0 0 0) 0b0000 0xFFFF 0x0),
      (machine 0x10000 [(0x0, 0x5), (0xFFFF, 0x6)] (regs 0x5 0 0 0 0 0 0) 0b0000 0x1 0x0),
      8, .running)] := by decide +kernel

/-- V-ID1, V-ID4, V-ID8, V-ID10, V-ID11. -/
theorem test_steps_increments : stepsAll [
    ((machine 0x10000 [(0x100, 0x8)] (regs 0 0xF 0 0 0 0 0) 0b1000 0x100 0x0),
      (machine 0x10000 [(0x100, 0x8)] (regs 0 0x10 0 0 0 0 0) 0b1000 0x101 0x0),
      5, .running),
    ((machine 0x10000 [(0x100, 0x10)] (regs 0 0 0x7F 0 0 0 0) 0b0000 0x100 0x0),
      (machine 0x10000 [(0x100, 0x10)] (regs 0 0 0x80 0 0 0 0) 0b0010 0x101 0x0),
      5, .running),
    ((machine 0x10000 [(0x100, 0x9)] (regs 0 0 0 0 0 0 0) 0b0000 0x100 0x0),
      (machine 0x10000 [(0x100, 0x9)] (regs 0 0xFF 0 0 0 0 0) 0b0011 0x101 0x0),
      5, .running),
    ((machine 0x10000 [(0x100, 0x31)] (regs 0 0 0 0 0 0x12 0) 0b0000 0x100 0x0),
      (machine 0x10000 [(0x100, 0x31)] (regs 0 0 0 0 0 0x12 0xFF) 0b0011 0x101 0x0),
      5, .running),
    ((machine 0x10000 [(0x100, 0x38)] (regs 0 0 0 0 0 0 0) 0b0000 0x100 0x0),
      (machine 0x10000 [(0x100, 0x38)] (regs 0 0 0 0 0 0 0) 0b0000 0x100 0x0),
      0, .fault (.decodeError 0x0100#16 0x38#8))] := by decide +kernel

/-- V-AD2, V-AD5, V-AD9, V-AD10. -/
theorem test_steps_add : stepsAll [
    ((machine 0x10000 [(0x100, 0x81)] (regs 0xFF 0x1 0 0 0 0 0) 0b0000 0x100 0x0),
      (machine 0x10000 [(0x100, 0x81)] (regs 0 0x1 0 0 0 0 0) 0b1101 0x101 0x0),
      5, .running),
    ((machine 0x10000 [(0x100, 0x81)] (regs 0x5 0x3 0 0 0 0 0) 0b1000 0x100 0x0),
      (machine 0x10000 [(0x100, 0x81)] (regs 0x8 0x3 0 0 0 0 0) 0b0000 0x101 0x0),
      5, .running),
    ((machine 0x10000 [(0x100, 0x87), (0x300, 0x3)] (regs 0x5 0 0 0 0 0x3 0) 0b1000 0x100 0x0),
      (machine 0x10000 [(0x100, 0x87), (0x300, 0x3)] (regs 0x8 0 0 0 0 0x3 0) 0b0000 0x101 0x0),
      8, .running),
    ((machine 0x10000 [(0x100, 0x4), (0x101, 0xFB)] (regs 0x5 0 0 0 0 0 0) 0b0000 0x100 0x0),
      (machine 0x10000 [(0x100, 0x4), (0x101, 0xFB)] (regs 0 0 0 0 0 0 0) 0b1101 0x102 0x0),
      8, .running)] := by decide +kernel

/-- V-AC1, V-AC5, V-AC6. -/
theorem test_steps_add_with_carry : stepsAll [
    ((machine 0x10000 [(0x100, 0x89)] (regs 0xFF 0 0 0 0 0 0) 0b1000 0x100 0x0),
      (machine 0x10000 [(0x100, 0x89)] (regs 0 0 0 0 0 0 0) 0b1101 0x101 0x0),
      5, .running),
    ((machine 0x10000 [(0x100, 0x8F), (0x301, 0xF)] (regs 0x10 0 0 0 0 0x3 0x1) 0b1000 0x100 0x0),
      (machine 0x10000 [(0x100, 0x8F), (0x301, 0xF)] (regs 0x20 0 0 0 0 0x3 0x1) 0b0000 0x101 0x0),
      8, .running),
    ((machine 0x10000 [(0x100, 0xC)] (regs 0 0 0 0 0 0 0) 0b1000 0x100 0x0),
      (machine 0x10000 [(0x100, 0xC)] (regs 0x1 0 0 0 0 0 0) 0b0000 0x102 0x0),
      8, .running)] := by decide +kernel

/-- V-SU1, V-SU4, V-SU7, V-SU8. -/
theorem test_steps_subtract : stepsAll [
    ((machine 0x10000 [(0x100, 0x91)] (regs 0x10 0x20 0 0 0 0 0) 0b0000 0x100 0x0),
      (machine 0x10000 [(0x100, 0x91)] (regs 0xF0 0x20 0 0 0 0 0) 0b1011 0x101 0x0),
      5, .running),
    ((machine 0x10000 [(0x100, 0x90)] (regs 0x9C 0 0 0 0 0 0) 0b1010 0x100 0x0),
      (machine 0x10000 [(0x100, 0x90)] (regs 0 0 0 0 0 0 0) 0b0101 0x101 0x0),
      5, .running),
    ((machine 0x10000 [(0x100, 0x97), (0x300, 0x20)] (regs 0x10 0 0 0 0 0x3 0) 0b0000 0x100 0x0),
      (machine 0x10000 [(0x100, 0x97), (0x300, 0x20)] (regs 0xF0 0 0 0 0 0x3 0) 0b1011 0x101 0x0),
      8, .running),
    ((machine 0x10000 [(0x100, 0x14), (0x101, 0x1)] (regs 0x1 0 0 0 0 0 0) 0b0000 0x100 0x0),
      (machine 0x10000 [(0x100, 0x14), (0x101, 0x1)] (regs 0 0 0 0 0 0 0) 0b0101 0x102 0x0),
      8, .running)] := by decide +kernel

/-- V-SB4, V-SB7, V-SB8. -/
theorem test_steps_subtract_with_borrow : stepsAll [
    ((machine 0x10000 [(0x100, 0x99)] (regs 0 0xFF 0 0 0 0 0) 0b1000 0x100 0x0),
      (machine 0x10000 [(0x100, 0x99)] (regs 0 0xFF 0 0 0 0 0) 0b1101 0x101 0x0),
      5, .running),
    ((machine 0x10000 [(0x100, 0x9F), (0x300, 0x2)] (regs 0x5 0 0 0 0 0x3 0) 0b1000 0x100 0x0),
      (machine 0x10000 [(0x100, 0x9F), (0x300, 0x2)] (regs 0x2 0 0 0 0 0x3 0) 0b0000 0x101 0x0),
      8, .running),
    ((machine 0x10000 [(0x100, 0x1C)] (regs 0 0 0 0 0 0 0) 0b1000 0x100 0x0),
      (machine 0x10000 [(0x100, 0x1C)] (regs 0xFF 0 0 0 0 0 0) 0b1011 0x102 0x0),
      8, .running)] := by decide +kernel

/-- V-CP2, V-CP7, V-CP8. -/
theorem test_steps_compare : stepsAll [
    ((machine 0x10000 [(0x100, 0xB9)] (regs 0x6 0x5 0 0 0 0 0) 0b1000 0x100 0x0),
      (machine 0x10000 [(0x100, 0xB9)] (regs 0x6 0x5 0 0 0 0 0) 0b0000 0x101 0x0),
      5, .running),
    ((machine 0x10000 [(0x100, 0x3C), (0x101, 0x80)] (regs 0x7F 0 0 0 0 0 0) 0b0000 0x100 0x0),
      (machine 0x10000 [(0x100, 0x3C), (0x101, 0x80)] (regs 0x7F 0 0 0 0 0 0) 0b1011 0x102 0x0),
      8, .running),
    ((machine 0x8000 [(0x100, 0xBF)] (regs 0x5 0 0 0 0 0x80 0) 0b0100 0x100 0x0),
      (machine 0x8000 [(0x100, 0xBF)] (regs 0x5 0 0 0 0 0x80 0) 0b0100 0x100 0x0),
      0, .fault (.memoryBounds 0x8000))] := by decide +kernel

/-- V-LG1, V-LG4, V-LG5, V-LG8, V-LG9, V-LG10, V-LG11, V-LG13, V-LG14. -/
theorem test_steps_logic : stepsAll [
    ((machine 0x10000 [(0x100, 0xA1)] (regs 0xF0 0x3C 0 0 0 0 0) 0b1000 0x100 0x0),
      (machine 0x10000 [(0x100, 0xA1)] (regs 0x30 0x3C 0 0 0 0 0) 0b0001 0x101 0x0),
      5, .running),
    ((machine 0x10000 [(0x100, 0xA7), (0x300, 0x81)] (regs 0xFF 0 0 0 0 0x3 0) 0b0000 0x100 0x0),
      (machine 0x10000 [(0x100, 0xA7), (0x300, 0x81)] (regs 0x81 0 0 0 0 0x3 0) 0b0011 0x101 0x0),
      8, .running),
    ((machine 0x10000 [(0x100, 0x24), (0x101, 0xF)] (regs 0x5A 0 0 0 0 0 0) 0b1000 0x100 0x0),
      (machine 0x10000 [(0x100, 0x24), (0x101, 0xF)] (regs 0xA 0 0 0 0 0 0) 0b0001 0x102 0x0),
      8, .running),
    ((machine 0x10000 [(0x100, 0xAA)] (regs 0xF 0 0xF0 0 0 0 0) 0b0000 0x100 0x0),
      (machine 0x10000 [(0x100, 0xAA)] (regs 0xFF 0 0xF0 0 0 0 0) 0b0011 0x101 0x0),
      5, .running),
    ((machine 0x10000 [(0x100, 0xAF), (0x300, 0x3)] (regs 0x1 0 0 0 0 0x3 0) 0b0000 0x100 0x0),
      (machine 0x10000 [(0x100, 0xAF), (0x300, 0x3)] (regs 0x2 0 0 0 0 0x3 0) 0b0000 0x101 0x0),
      8, .running),
    ((machine 0x10000 [(0x100, 0x2C), (0x101, 0xFF)] (regs 0x55 0 0 0 0 0 0) 0b0000 0x100 0x0),
      (machine 0x10000 [(0x100, 0x2C), (0x101, 0xFF)] (regs 0xAA 0 0 0 0 0 0) 0b0011 0x102 0x0),
      8, .running),
    ((machine 0x10000 [(0x100, 0xB1)] (regs 0x80 0x1 0 0 0 0 0) 0b1000 0x100 0x0),
      (machine 0x10000 [(0x100, 0xB1)] (regs 0x81 0x1 0 0 0 0 0) 0b0011 0x101 0x0),
      5, .running),
    ((machine 0x10000 [(0x100, 0xB7), (0x300, 0x1)] (regs 0x10 0 0 0 0 0x3 0) 0b0000 0x100 0x0),
      (machine 0x10000 [(0x100, 0xB7), (0x300, 0x1)] (regs 0x11 0 0 0 0 0x3 0) 0b0001 0x101 0x0),
      8, .running),
    ((machine 0x10000 [(0x100, 0x34), (0x101, 0x1)] (regs 0x80 0 0 0 0 0 0) 0b1000 0x100 0x0),
      (machine 0x10000 [(0x100, 0x34), (0x101, 0x1)] (regs 0x81 0 0 0 0 0 0) 0b0011 0x102 0x0),
      8, .running)] := by decide +kernel

/-- V-RO1, V-RO5, V-RO8, V-RO12. -/
theorem test_steps_rotates : stepsAll [
    ((machine 0x10000 [(0x100, 0x2)] (regs 0x81 0 0 0 0 0 0) 0b0101 0x100 0x0),
      (machine 0x10000 [(0x100, 0x2)] (regs 0x3 0 0 0 0 0 0) 0b1101 0x101 0x0),
      5, .running),
    ((machine 0x10000 [(0x100, 0xA)] (regs 0x1 0 0 0 0 0 0) 0b0000 0x100 0x0),
      (machine 0x10000 [(0x100, 0xA)] (regs 0x80 0 0 0 0 0 0) 0b1000 0x101 0x0),
      5, .running),
    ((machine 0x10000 [(0x100, 0x12)] (regs 0 0 0 0 0 0 0) 0b1000 0x100 0x0),
      (machine 0x10000 [(0x100, 0x12)] (regs 0x1 0 0 0 0 0 0) 0b0000 0x101 0x0),
      5, .running),
    ((machine 0x10000 [(0x100, 0x1A)] (regs 0 0 0 0 0 0 0) 0b1000 0x100 0x0),
      (machine 0x10000 [(0x100, 0x1A)] (regs 0x80 0 0 0 0 0 0) 0b0000 0x101 0x0),
      5, .running)] := by decide +kernel

/-- V-JC1, V-JC4, V-JC5, V-JC6, V-JC10, V-JC17, V-JC20, V-JC22, V-JC23, V-JC27, V-JC30, V-JC31, V-JC32. -/
theorem test_steps_jumps_calls_return : stepsAll [
    ((machine 0x10000 [(0x200, 0x44), (0x201, 0x10), (0x202, 0x2)] (regs 0 0 0 0 0 0 0) 0b0000 0x200 0x0),
      (machine 0x10000 [(0x200, 0x44), (0x201, 0x10), (0x202, 0x2)] (regs 0 0 0 0 0 0 0) 0b0000 0x210 0x0),
      11, .running),
    ((machine 0x1000 [(0x100, 0x44), (0x101, 0xFF), (0x102, 0xFF)] (regs 0 0 0 0 0 0 0) 0b0000 0x100 0x0),
      (machine 0x1000 [(0x100, 0x44), (0x101, 0xFF), (0x102, 0xFF)] (regs 0 0 0 0 0 0 0) 0b0000 0xFFFF 0x0),
      11, .running),
    ((machine 0x10000 [(0x200, 0x48), (0x202, 0x3)] (regs 0 0 0 0 0 0 0) 0b0000 0x200 0x0),
      (machine 0x10000 [(0x200, 0x48), (0x202, 0x3)] (regs 0 0 0 0 0 0 0) 0b0000 0x300 0x0),
      11, .running),
    ((machine 0x10000 [(0x200, 0x48), (0x202, 0x3)] (regs 0 0 0 0 0 0 0) 0b0100 0x200 0x0),
      (machine 0x10000 [(0x200, 0x48), (0x202, 0x3)] (regs 0 0 0 0 0 0 0) 0b0100 0x203 0x0),
      11, .running),
    ((machine 0x10000 [(0x0, 0x60), (0x1, 0x34), (0x2, 0x12)] (regs 0 0 0 0 0 0 0) 0b1000 0x0 0x0),
      (machine 0x10000 [(0x0, 0x60), (0x1, 0x34), (0x2, 0x12)] (regs 0 0 0 0 0 0 0) 0b1000 0x1234 0x0),
      11, .running),
    ((machine 0x10000 [(0x205, 0x46), (0x207, 0x3)] (regs 0 0 0 0 0 0 0) 0b0000 0x205 0x1),
      (machine 0x10000 [(0x0, 0x2), (0xFF, 0x8), (0x205, 0x46), (0x207, 0x3)] (regs 0 0 0 0 0 0 0) 0b0000 0x300 0xFF),
      11, .running),
    ((machine 0x10000 [(0xFE, 0xAA), (0xFF, 0xBB), (0xFFFD, 0x46), (0xFFFF, 0x3)] (regs 0 0 0 0 0 0 0) 0b0000 0xFFFD 0x0),
      (machine 0x10000 [(0xFFFD, 0x46), (0xFFFF, 0x3)] (regs 0 0 0 0 0 0 0) 0b0000 0x300 0xFE),
      11, .running),
    ((machine 0x10000 [(0x210, 0x4A), (0x212, 0x3)] (regs 0 0 0 0 0 0 0) 0b0100 0x210 0xFE),
      (machine 0x10000 [(0x210, 0x4A), (0x212, 0x3)] (regs 0 0 0 0 0 0 0) 0b0100 0x213 0xFE),
      11, .running),
    ((machine 0x10000 [(0x0, 0x62), (0x2, 0x3)] (regs 0 0 0 0 0 0 0) 0b1000 0x0 0x0),
      (machine 0x10000 [(0x0, 0x62), (0x2, 0x3), (0xFE, 0x3)] (regs 0 0 0 0 0 0 0) 0b1000 0x300 0xFE),
      11, .running),
    ((machine 0x10000 [(0x0, 0x12), (0xFF, 0x34), (0x300, 0x7)] (regs 0 0 0 0 0 0 0) 0b0000 0x300 0xFF),
      (machine 0x10000 [(0x0, 0x12), (0xFF, 0x34), (0x300, 0x7)] (regs 0 0 0 0 0 0 0) 0b0000 0x1234 0x1),
      5, .running),
    ((machine 0x80 [(0x20, 0x46), (0x22, 0x3)] (regs 0 0 0 0 0 0 0) 0b0000 0x20 0x81),
      (machine 0x80 [(0x20, 0x46), (0x22, 0x3)] (regs 0 0 0 0 0 0 0) 0b0000 0x20 0x81),
      0, .fault (.memoryBounds 0x0080)),
    ((machine 0x80 [(0x20, 0x7)] (regs 0 0 0 0 0 0 0) 0b0000 0x20 0x7F),
      (machine 0x80 [(0x20, 0x7)] (regs 0 0 0 0 0 0 0) 0b0000 0x20 0x7F),
      0, .fault (.memoryBounds 0x0080)),
    ((machine 0x80 [(0x20, 0x4A), (0x22, 0x3)] (regs 0 0 0 0 0 0 0) 0b0100 0x20 0x0),
      (machine 0x80 [(0x20, 0x4A), (0x22, 0x3)] (regs 0 0 0 0 0 0 0) 0b0100 0x23 0x0),
      11, .running)] := by decide +kernel

/-- V-HI3, V-HI4, V-HI6, V-HI9, V-HI10, V-HI11. -/
theorem test_steps_halt_ports : stepsAll [
    ((machine 0x10000 [(0x100, 0xFF)] (regs 0x1 0 0 0 0 0 0) 0b1000 0x100 0x0),
      (machine 0x10000 [(0x100, 0xFF)] (regs 0x1 0 0 0 0 0 0) 0b1000 0x101 0x0),
      4, .halted),
    ((machine 0x10000 [] (regs 0 0 0 0 0 0 0) 0b0000 0xFFFF 0x0),
      (machine 0x10000 [] (regs 0 0 0 0 0 0 0) 0b0000 0x0 0x0),
      4, .halted),
    ((machine 0x10000 [(0x1, 0x9C), (0x100, 0x43)] (regs 0 0 0 0 0 0 0) 0b0100 0x100 0x0),
      (machine 0x10000 [(0x1, 0x9C), (0x100, 0x43)] (regs 0x9C 0 0 0 0 0 0) 0b0100 0x101 0x0),
      8, .running),
    ((machine 0x10000 [(0x100, 0x7F)] (regs 0x42 0 0 0 0 0 0) 0b0000 0x100 0x0),
      (machine 0x10000 [(0x1F, 0x42), (0x100, 0x7F)] (regs 0x42 0 0 0 0 0 0) 0b0000 0x101 0x0),
      6, .running),
    ((machine 0x10000 [(0x9, 0x77), (0x100, 0x53)] (regs 0 0 0 0 0 0 0) 0b0000 0x100 0x0),
      (machine 0x10000 [(0x100, 0x53)] (regs 0 0 0 0 0 0 0) 0b0000 0x101 0x0),
      6, .running),
    ((machine 0x8 [(0x4, 0x51)] (regs 0x42 0 0 0 0 0 0) 0b0000 0x4 0x0),
      (machine 0x8 [(0x4, 0x51)] (regs 0x42 0 0 0 0 0 0) 0b0000 0x4 0x0),
      0, .fault (.memoryBounds 0x0008))] := by decide +kernel

/-- V-F2, V-F5. -/
theorem test_steps_faults : stepsAll [
    ((machine 0x1000 [(0xFFF, 0x3D)] (regs 0 0 0 0 0 0 0) 0b0000 0xFFF 0x0),
      (machine 0x1000 [(0xFFF, 0x3D)] (regs 0 0 0 0 0 0 0) 0b0000 0xFFF 0x0),
      0, .fault (.decodeError 0x0FFF#16 0x3D#8)),
    ((machine 0x1000 [(0xFFE, 0x44)] (regs 0 0 0 0 0 0 0) 0b0000 0xFFE 0x0),
      (machine 0x1000 [(0xFFE, 0x44)] (regs 0 0 0 0 0 0 0) 0b0000 0xFFE 0x0),
      0, .fault (.memoryBounds 0x1000))] := by decide +kernel

/-! ## The assembler -/

theorem test_assemble_AS1 : assemble Isd.default "LAI #$05\nLBI #$03\nADB\nHLT" 0x0000 =
    .ok ([0x06, 0x05, 0x0E, 0x03, 0x81, 0x00], []) := by decide

theorem test_assemble_AS3 : assemble Isd.default "RET\nJMP $0000\nCAL $0000\nINP\nOUT" 0x0000 =
    .ok ([0x07, 0x44, 0x00, 0x00, 0x46, 0x00, 0x00, 0x41, 0x51], []) := by decide

theorem test_assemble_AS4 : assemble Isd.default "JMP END\nNOP\nEND:\nHLT" 0x0200 =
    .ok ([0x44, 0x04, 0x02, 0xC0, 0x00], [("END", 0x0204)]) := by decide

theorem test_assemble_AS10 : assemble Isd.default "LAI #$005" 0x0000 =
    .ok ([0x06, 0x05], []) := by decide

theorem test_assemble_AS12 : assemble Isd.default "LHI #$1FF" 0x0000 =
    .error .oversizeImmediate := by decide

theorem test_assemble_AS16 : assemble Isd.default "LAI #$01\nZZZ\nHLT" 0x0000 =
    .error .unknownMnemonic := by decide

theorem test_assemble_AS19 : assemble Isd.default "JMP NOWHERE" 0x0000 =
    .error .unresolvedLabel := by decide

theorem test_assemble_AS24 : assemble Isd.default "JMP #$10" 0x0000 =
    .error .unresolvedLabel := by decide

theorem test_assemble_AS26 : assemble Isd.default "LAI $05" 0x0000 =
    .error .invalidOperandFormat := by decide

theorem test_assemble_AS31 : assemble Isd.default "OUT $08" 0x0000 =
    .error .invalidOperandFormat := by decide

theorem test_assemble_AS35 : assemble Isd.default "X:\nNOP\nX:\nJMP X" 0x0100 =
    .ok ([0xC0, 0x44, 0x01, 0x01], [("X", 0x0101)]) := by decide

theorem test_assemble_AS40 : assemble Isd.default "NOP\nNOP\nNOP" 0xFFFE =
    .error .invalidOperandFormat := by decide

theorem test_assemble_AS43 : assemble Isd.default "LAI #$01\r\nHLT\r\n" 0x0000 =
    .ok ([0x06, 0x01, 0x00], []) := by decide

theorem test_assemble_AS45 : assemble Isd.default "CTZ SUB\nSUB:\nSUB" 0x0300 =
    .ok ([0x6A, 0x03, 0x03, 0x91], [("SUB", 0x0303)]) := by decide

theorem test_assemble_AS48 : assemble Isd.default "$10:\nJMP $10" 0x0200 =
    .ok ([0x44, 0x10, 0x00], [("$10", 0x0200)]) := by decide

/-! ## Host operations (V-H2, V-H3, V-H5) -/

theorem test_load_refuses_whole_image :
    load [1, 2, 3, 4] 0x0FFD (fresh 4096 [] 0) = .error (.memoryBounds 0x1000) ∧
    load [1, 2] 0xFFFF (fresh 65536 [] 0) = .error (.memoryBounds 65536) := by decide

theorem test_load_empty_image_sets_pc : load [] 0x1388 (fresh 4096 [] 0) = .ok (fresh 4096 [] 0x1388) := by decide

/-! ## Replacement ISDs (R62, R64; decisions D1, D8) -/

/-- The default table without `CFC`, and with an alias of `INB` at 0x03 that costs 7 cycles. -/
def isdA : Isd :=
  { rows := [(0x42#8, none), (0x03#8, some ⟨0x03#8, "INB", .implied, 1, .fixed 7, 0x08#8⟩)] }

/-- The default table with a Relative entry at 0x05. -/
def isdR : Isd := { rows := [(0x05#8, some ⟨0x05#8, "BRA", .relative, 2, .fixed 5, 0x05#8⟩)] }

/-- An engine of 65536 bytes with an ISD. -/
def engineWith (isd : Isd) (cells : Memory) : State :=
  { State.create { Params.default with isd := isd } with mem := cells }

theorem default_meets : Isd.default.meets Params.default := by decide +kernel

theorem test_replacement_isds_meet : isdA.meets Params.default ∧ isdR.meets Params.default := by decide +kernel

/-- Without `ADB`, with a cost of zero, and with another operation under `HLT`, the constraints fail. -/
theorem test_replacement_isds_refused :
    ¬Isd.meets Params.default { rows := [(0x81#8, none)] } ∧
    ¬Isd.meets Params.default { rows := [(0x08#8, some ⟨0x08#8, "INB", .implied, 1, .fixed 0, 0x08#8⟩)] } ∧
    ¬Isd.meets Params.default { rows := [(0x01#8, some ⟨0x01#8, "HLT", .implied, 1, .fixed 4, 0x08#8⟩)] } := by
  decide +kernel

theorem test_replacement_isd_steps : stepsAll [
    (engineWith isdA [(0, 0x03)],
      { engineWith isdA [(0, 0x03)] with regs := regs 0 1 0 0 0 0 0, pc := 1 }, 7, .running),
    (engineWith isdA [(0, 0x42)], engineWith isdA [(0, 0x42)], 0, .fault (.decodeError 0 0x42)),
    (engineWith isdR [(0, 0x05)], engineWith isdR [(0, 0x05)], 0, .fault (.decodeError 0 0x05))] := by decide +kernel

theorem test_replacement_isd_assembles : assemble isdA "INB" 0x0000 = .ok ([0x03], []) := by decide

theorem test_replacement_isd_drops : assemble isdA "CFC $0000" 0x0000 = .error .unknownMnemonic := by decide

/-- Parameters with the default ISD and cost are in range when their memory size is. -/
theorem default_wf {n : Nat} (h1 : 1 ≤ n) (h2 : n ≤ 65536) : Params.wf { Params.default with memSize := n } :=
  ⟨h1, h2, (by decide : 0 < Params.default.clockRate), (by decide : 1 ≤ Params.default.cycCond),
    (Isd.meets_congr rfl).1 default_meets⟩

/-- A list of addresses checked one by one. -/
theorem forall_of_all {l : List Addr} {p : Addr → Prop} [DecidablePred p] (h : l.all (fun a => decide (p a)) = true) :
    ∀ a ∈ l, p a := by simpa using h

/-! ## Witnesses: the hypotheses of the obligations are met

Each is named after its obligation. Where a clause has a range, the values are at its ends. -/

theorem witness_DecodeEncodeRoundTrip : ∀ i ∈ [Instr.inp 7#5, .out8 8#5, .out24 31#5, .jmp 7#3 0xFFFF#16, .hltFF],
    i.wellFormed = true := by decide

theorem witness_EncodeDecodeRoundTrip :
    decode [0x7C#8, 0x34#8, 0x12#8, 0x00#8] = .ok (.jmp 0b111#3 0x1234#16, [0x00#8]) := by decide

theorem witness_CanonicalEncodingDecodes : Params.default.wf ∧
    lookupByMnemonic Isd.default "OUT" = some ⟨0x51#8, "OUT", .implied, 1, .fixed 6, 0x51#8⟩ ∧
    lookupByMnemonic Isd.default "LMI" = some ⟨0x3E#8, "LMI", .immediate, 2, .fixed 9, 0x3E#8⟩ ∧
    lookupByMnemonic Isd.default "CAL" = some ⟨0x46#8, "CAL", .absolute, 3, .fixed 11, 0x46#8⟩ ∧
    lookupByMnemonic isdA "INB" = some ⟨0x03#8, "INB", .implied, 1, .fixed 7, 0x08#8⟩ ∧
    fits .implied .none ∧ fits .immediate (.imm 0xFF#8) ∧ fits .absolute (.abs 0xFFFF#16) :=
  ⟨default_wf (by decide) (by decide), by decide, by decide, by decide, by decide, trivial, trivial, trivial⟩

theorem witness_MnemonicLookupIsLowestAlias : ∃ e e' : InstructionSpec,
    lookupByOpcode Isd.default 0x51#8 = some e ∧ lookupByOpcode Isd.default 0x7F#8 = some e' ∧ e.mnemonic = "OUT" ∧ e'.mnemonic = "OUT" :=
  ⟨_, _, rfl, rfl, rfl, rfl⟩

theorem witness_UndefinedOpcodesRaiseDecodeError :
    (memRead (fresh 4096 [(0xFFF, 0x3D)] 0xFFF) 0xFFF = .ok 0x3D#8 ∧ 0x3D#8 ∈ undefinedOpcodes ∧
      memRead (fresh 1 [] 0) 0 = .ok 0x00#8 ∧ 0x00#8 ∉ undefinedOpcodes) ∧
    (fresh 4096 [(0xFFF, 0x3D)] 0xFFF).cfg.wf ∧ (engineWith isdR [(0, 0x05)]).cfg.wf ∧
    lookupByOpcode isdR 0x05#8 = some ⟨0x05#8, "BRA", .relative, 2, .fixed 5, 0x05#8⟩ :=
  ⟨by decide, default_wf (by decide) (by decide),
    ⟨by decide, by decide, by decide, by decide, (Isd.meets_congr rfl).1 test_replacement_isds_meet.2⟩, by decide⟩

theorem witness_DefaultIsdMeetsConstraints : 1 ≤ Params.default.cycCond ∧
    (isdEntries Isd.default).any (fun e => e.cost == .cycCond) = true ∧
    ⟨0x06#8, "LAI", .immediate, 2, .fixed 8, 0x06#8⟩ ∈ isdEntries Isd.default :=
  ⟨by decide, by decide, by decide⟩

/-- The operand bytes wrap from 0xFFFF to 0x0000; under another ISD, an entry with another cost. -/
theorem witness_StepRunsDecodedInstruction :
    (∀ k : Fin 3, memRead (fresh 65536 [(0, 0x34), (1, 0x12), (0xFFFF, 0x44)] 0xFFFF)
      ((0xFFFF : Addr) + BitVec.ofNat 16 k) = .ok ([0x44#8, 0x34#8, 0x12#8].get k)) ∧
    decode [0x44#8, 0x34#8, 0x12#8] = .ok (.jmp 0b000#3 0x1234#16, []) ∧
    decodeWith isdA [0x03#8] = .ok (⟨0x03#8, "INB", .implied, 1, .fixed 7, 0x08#8⟩, .inb, []) := by decide

theorem witness_StepFaultsInPriorityOrder_fetch :
    (fresh 4096 [] 0x1000).cfg.memSize ≤ (0x1000 : Addr).toNat := by decide

theorem witness_StepFaultsInPriorityOrder_decode :
    memRead (fresh 4096 [(0xFFF, 0x3D)] 0xFFF) 0xFFF = .ok 0x3D#8 ∧ lookupByOpcode Isd.default 0x3D#8 = none := by decide

theorem witness_StepFaultsInPriorityOrder_firstOperand : ∃ e : InstructionSpec,
    memRead (fresh 4096 [(0xFFF, 0x06)] 0xFFF) 0xFFF = .ok 0x06#8 ∧ lookupByOpcode Isd.default 0x06#8 = some e ∧ e.size = 2 ∧
    e.mode ≠ .relative ∧ 4096 ≤ ((0xFFF : Addr) + 1#16).toNat ∧ (fresh 4096 [] 0).cfg.wf :=
  ⟨_, rfl, rfl, rfl, nofun, by decide, default_wf (by decide) (by decide)⟩

theorem witness_StepFaultsInPriorityOrder_secondOperand : ∃ e : InstructionSpec,
    memRead (fresh 4096 [(0xFFE, 0x44)] 0xFFE) 0xFFE = .ok 0x44#8 ∧ lookupByOpcode Isd.default 0x44#8 = some e ∧ e.size = 3 ∧
    ((0xFFE : Addr) + 1#16).toNat < 4096 ∧ 4096 ≤ ((0xFFE : Addr) + 2#16).toNat ∧ (fresh 4096 [] 0).cfg.wf :=
  ⟨_, rfl, rfl, rfl, by decide, by decide, default_wf (by decide) (by decide)⟩

theorem witness_StepFaultsInPriorityOrder_executes :
    (fetch (fresh 128 [(0x20, 0x46), (0x22, 0x03)] 0x20)).map (fun r => r.2) = .ok (.cal 0#3 0x0300) := by decide

/-- A call whose high slot is the first byte outside a 128-byte memory (V-JC30), and one whose slots are its last two
bytes. -/
theorem witness_StepFaultsInPriorityOrder_data :
    ((fresh 128 [] 0).setSp 0x81).callSlots.find? (fun a => decide (128 ≤ a.toNat)) = some 0x0080 ∧
    (∀ a ∈ ((fresh 128 [] 0).setSp 0x80).callSlots, a.toNat < 128) ∧
    (∀ s : State, (Instr.cal 0#3 0x0300).dataAddresses s = s.callSlots) :=
  ⟨by decide, forall_of_all (by decide), fun _ => rfl⟩

theorem witness_InstructionsCompleteWhenAddressesExist :
    (∀ a ∈ (Instr.lam).dataAddresses (fresh 1 [] 0), a.toNat < (fresh 1 [] 0).cfg.memSize) ∧
    ((Instr.inp 1#5).dataAddresses (fresh 1 [] 0)).find? (fun a => decide ((fresh 1 [] 0).cfg.memSize ≤ a.toNat)) =
      some 0x0001 := ⟨forall_of_all (by decide), by decide⟩

theorem witness_NoBoundsFaultWhereMemoryExists :
    State.reset.cfg.memSize = 65536 ∧ 256 ≤ (fresh 256 [] 0).cfg.memSize := by decide

theorem witness_FullMemoryRunsAreBoundsSafe : State.reset.cfg.memSize = 65536 := rfl

theorem witness_CreationMeetsInvariant :
    Params.wf { Params.default with memSize := 1 } ∧ Params.wf { Params.default with memSize := 65536 } ∧
    ¬Params.wf { Params.default with memSize := 0 } ∧ ¬Params.wf { Params.default with memSize := 65537 } ∧
    ¬Params.wf { Params.default with isd := { rows := [(0x81#8, none)] } } :=
  ⟨default_wf (by decide) (by decide), default_wf (by decide) (by decide), fun h => absurd h.1 (by decide),
    fun h => absurd h.2.1 (by decide),
    fun h => test_replacement_isds_refused.1 ((Isd.meets_congr rfl).1 h.2.2.2.2)⟩

/-- A store into the last byte of memory. -/
theorem witness_StepKeepsInvariant : ∃ s t : State, s.wf ∧ s.mem ≠ [] ∧ step s = .next t :=
  ⟨machine 4096 [(0, 0xF8)] (regs 0x3C 0 0 0 0 0x0F 0xFF) 0b0000 0 0, _,
    ⟨default_wf (by decide) (by decide), by decide, by decide⟩, by decide, rfl⟩

theorem witness_LoadPlacesImage :
    (4096 < (0xFFD : Addr).toNat + [1#8, 2#8, 3#8, 4#8].length) ∧
    ((0xFFC : Addr).toNat + [1#8, 2#8, 3#8, 4#8].length ≤ 4096) := by decide

theorem witness_FaultedStepChangesNothing : hostStep (fresh 65536 [(0x100, 0x38)] 0x100) =
    (fresh 65536 [(0x100, 0x38)] 0x100, .fault (.decodeError 0x100 0x38)) := by decide

theorem witness_HaltedExactlyAtHaltOpcodes : (fresh 65536 [(0x100, 0xFF)] 0x100).cfg.wf ∧ ∀ op ∈ [0x01#8, 0xFF#8],
    hostStep (fresh 65536 [(0x100, op)] 0x100) = ((fresh 65536 [(0x100, op)] 0x101).addCycles 4, .halted) :=
  ⟨default_wf (by decide) (by decide), by decide⟩

theorem witness_RunHaltsOnlyAfterHalt : (fresh 65536 [(0, 0xC0)] 0).cfg.wf ∧
    run 2 (fresh 65536 [(0, 0xC0)] 0) = ((fresh 65536 [(0, 0xC0)] 2).addCycles 9, .halted) :=
  ⟨default_wf (by decide) (by decide), by decide⟩

theorem witness_RunFaultLeavesStateBeforeStep : run 2 (fresh 65536 [(0, 0xC0), (1, 0x38)] 0) =
    ((fresh 65536 [(0, 0xC0), (1, 0x38)] 1).addCycles 5, .fault (.decodeError 1 0x38)) := by decide

theorem witness_ReadAfterWrite :
    (0x0FFF : Addr).toNat < (fresh 4096 [] 0).cfg.memSize ∧ (fresh 4096 [] 0).cfg.memSize ≤ (0x1000 : Addr).toNat := by
  decide

/-- Two histories of one memory: a byte written and then cleared leaves no cell. -/
theorem witness_CanonicalMemoriesAreEqual :
    Memory.wf (Memory.write (Memory.write [(5, 1)] 3 7) 3 0) ∧ Memory.wf [(5, 1)] ∧
    Memory.write (Memory.write [(5, 1)] 3 7) 3 0 = [(5, 1)] := by decide

/-- V-LM11: the byte after the store is stored to; it holds an implied opcode, an absolute one whose operand bytes are
there, or an undefined one. -/
theorem witness_StoreIsSeenByNextFetch :
    (∃ t, exec (storeInstr .b) (machine 65536 [(0x100, 0xF9)] (regs 0 0xFF 0 0 0 1 1) 0b0000 0x100 0) = .next t) ∧
    (∃ e i, decodeWith Isd.default [0xFF#8] = .ok (e, i, [])) ∧
    (∃ t, exec (storeInstr .b) (machine 65536 [(0x100, 0xF9)] (regs 0 0x44 0 0 0 1 1) 0b0000 0x100 0) = .next t ∧
      (∀ k : Fin 2, memRead t (t.pc + BitVec.ofNat 16 (k + 1)) = .ok 0x00#8) ∧
      ∃ e i, decodeWith Isd.default [0x44#8, 0x00#8, 0x00#8] = .ok (e, i, [])) ∧
    (∃ t, exec (storeInstr .b) (machine 65536 [(0x100, 0xF9)] (regs 0 0x38 0 0 0 1 1) 0b0000 0x100 0) = .next t) ∧
    lookupByOpcode Isd.default 0x38#8 = none ∧
    (machine 65536 [(0x100, 0xF9)] (regs 0 0xFF 0 0 0 1 1) 0b0000 0x100 0).hl = 0x100#16 + 1#16 :=
  ⟨⟨_, rfl⟩, ⟨_, _, rfl⟩, ⟨_, rfl, by decide, _, _, rfl⟩, ⟨_, rfl⟩, by decide, by decide⟩

/-- `HL` at the last byte of memory, and just outside it: for the loads, the stores and the M form of each ALU operation
(`LoadReadsMemoryAtHL`, `StoreWritesMemoryAtHL`, `StoreImmediateWritesLiteral`, the eight ALU obligations). -/
theorem witness_accesses_at_HL :
    ((fresh 4096 [] 0).setReg .h 0x0F |>.setReg .l 0xFF).hl.toNat < 4096 ∧
    4096 ≤ ((fresh 4096 [] 0).setReg .h 0x10).hl.toNat := by decide

theorem witness_IncrementAndDecrement : Reg.b ≠ Reg.a ∧ incInstr .b = some .inb ∧ decInstr .l = some .dcl := by decide

/-- Both slots inside a 128-byte memory (its last two bytes), the high slot outside, and the low slot outside alone
(`sp = 1`: the high slot is 0x00 and the low slot 0xFF). -/
theorem witness_CallPushesReturnAddress :
    ((0x80#8 - 1#8).toNat < 128 ∧ (0x80#8 - 2#8).toNat < 128) ∧ 128 ≤ (0x81#8 - 1#8).toNat ∧
    ((0x01#8 - 1#8).toNat < 128 ∧ 128 ≤ (0x01#8 - 2#8).toNat) := by decide

/-- Each sense with its flag, at the stack pointers of `witness_CallPushesReturnAddress`. -/
theorem witness_ConditionalCalls :
    (fresh 128 [] 0).getFlag .zero ≠ true ∧ (fresh 128 [] 0).getFlag .zero = false ∧
    ((0x80#8 - 1#8).toNat < 128 ∧ (0x80#8 - 2#8).toNat < 128) ∧ 128 ≤ (0x81#8 - 1#8).toNat ∧
    ((0x01#8 - 1#8).toNat < 128 ∧ 128 ≤ (0x01#8 - 2#8).toNat) := by decide

/-- Both slots are the last two bytes; the low slot outside; the high slot outside alone (V-JC31). -/
theorem witness_ReturnPopsPc :
    ((0x7E#8).toNat < 128 ∧ (0x7E#8 + 1#8).toNat < 128) ∧ 128 ≤ (0x80#8).toNat ∧
    ((0x7F#8).toNat < 128 ∧ 128 ≤ (0x7F#8 + 1#8).toNat) := by decide

/-- A call that wraps the stack pointer (V-JC17). -/
theorem witness_ReturnUndoesCall : ∃ t, exec (.cal 0#3 0x0300)
    (machine 65536 [] (regs 0 0 0 0 0 0 0) 0b0000 0x0205 0x01) = .next t := ⟨_, rfl⟩

theorem witness_InputReadsPort :
    (7#5 : Port).toNat < 8 ∧ ((fresh 8 [] 0).ioAddr 7#5).toNat < 8 ∧ 7 ≤ ((fresh 7 [] 0).ioAddr 7#5).toNat := by decide

theorem witness_OutputWritesPort :
    (Instr.out8 8#5).wellFormed = true ∧ (Instr.out16 23#5).wellFormed = true ∧ (Instr.out24 31#5).wellFormed = true ∧
    ((fresh 9 [] 0).ioAddr 8#5).toNat < 9 ∧ 8 ≤ ((fresh 8 [] 0).ioAddr 8#5).toNat := by decide

/-- For `RegisterFrame`, `FlagFrame`, `MemoryFrame`, `StackPointerFrame` and `CyclesAddDeclaredCost`: instructions that
complete and leave a register, a flag or a byte alone. -/
theorem witness_frames_complete : completes (exec .adm State.reset) = true ∧ completes (exec .inb State.reset) = true ∧
    completes (exec (.cal 0#3 0x0300) State.reset) = true := by decide +kernel

theorem witness_frames_leave_alone :
    Instr.adm.destination ≠ some .b ∧ FlagName.carry ∉ Instr.inb.flagsWritten ∧
    (∀ b ∈ (Instr.cal 0#3 0x0300).storeAddresses State.reset, b.toNat ≠ 0xFD) ∧
    Instr.adm.storeAddresses State.reset = [] := ⟨by decide, by decide, forall_of_all (by decide), rfl⟩

/-- A step that completes under an ISD whose entry declares another cost than the default one. -/
theorem witness_CyclesAddDeclaredCost : ∃ e t, fetch (engineWith isdA [(0, 0x03)]) = .ok (e, .inb) ∧
    step (engineWith isdA [(0, 0x03)]) = .next t ∧ lookupByOpcode Isd.default 0x08#8 ≠ none :=
  ⟨_, _, rfl, rfl, by decide⟩

/-- Its image ends at the last address (V-AS39). -/
theorem witness_AssembledImageIsCanonicalProgram : Params.default.wf ∧
    (∀ e ∈ isdEntries Params.default.isd, e.mode ≠ .relative) ∧
    assemble Params.default.isd "NOP\nNOP" 0xFFFE = .ok ([0xC0, 0xC0], []) :=
  ⟨default_wf (by decide) (by decide), by decide +kernel, by decide⟩

theorem witness_OversizeImmediateRejected :
    hexValueFrom 0 ['1', '0', '0'] = some 0x100 ∧ hexValueFrom 0 ['F', 'f'] = some 0xFF ∧
    (['F', 'f'] : List Char) ≠ [] := by decide

end Sys2Proof.Tests
end

section
/-! Parity as the exclusive or of the bits (R17). -/

namespace Sys2Proof.Machine

/-- `parity_even` as the negated low bit of the count, the form that turns a sum into exclusive ors. -/
theorem parityEven_eq_not_bodd (v : Byte) : parityEven v = !(bitCount v).bodd := by
  rw [parityEven, Nat.mod_two_of_bodd]
  cases (bitCount v).bodd <;> rfl

theorem bodd_boolToNat (b : Bool) : b.toNat.bodd = b := by
  cases b <;> rfl

/-- The low bit of a sum is the exclusive or of the low bits (`Nat.bodd_add`), here over the eight bits of a byte. -/
theorem bodd_bitCount (v : Byte) :
    (bitCount v).bodd = (v[0] ^^ v[1] ^^ v[2] ^^ v[3] ^^ v[4] ^^ v[5] ^^ v[6] ^^ v[7]) := by
  simp only [bitCount, Nat.bodd_add, bodd_boolToNat]

/-- Settles O40: the count is odd exactly when the exclusive or of the bits is set. -/
theorem parityIsEvenBitCount : Obligations.ParityIsEvenBitCount := by
  intro v
  rw [parityEven_eq_not_bodd, bodd_bitCount]

end Sys2Proof.Machine
end

section
/-! Loads, stores and load immediates (R102 to R104). Each of the three families is one shared operation over the register
it names: its instructions decode from one opcode form and execute as that operation, so a single argument per family
covers the seven registers. -/

namespace Sys2Proof

/-- An implied form takes no operand byte (R51). -/
theorem decode_of_implied {op : Byte} {i : Instr} (h : decodeOpcode op = some (.implied i)) (rest : List Byte) :
    decode (op :: rest) = .ok (i, rest) := by
  simp [decode, decodeForm, h]

/-- An immediate form takes the next byte as its literal (R51, R54). -/
theorem decode_of_immediate {op : Byte} {mk : Byte → Instr} (h : decodeOpcode op = some (.immediate mk)) (v : Byte)
    (rest : List Byte) : decode (op :: v :: rest) = .ok (mk v, rest) := by
  simp [decode, decodeForm, h]

/-! ## The opcodes, one register field each (R57) -/

theorem decodeOpcode_load (dst : Reg) :
    decodeOpcode (BitVec.ofNat 8 (0xC7 + 8 * dst.number)) = some (.implied (loadInstr dst)) := by
  cases dst <;> rfl

theorem decodeOpcode_store (r : Reg) :
    decodeOpcode (BitVec.ofNat 8 (0xF8 + r.number)) = some (.implied (storeInstr r)) := by
  cases r <;> rfl

theorem decodeOpcode_loadImm (dst : Reg) :
    decodeOpcode (BitVec.ofNat 8 (0x06 + 8 * dst.number)) = some (.immediate (loadImmInstr dst)) := by
  cases dst <;> rfl

end Sys2Proof

namespace Sys2Proof.Machine

/-! ## The shared operation each family executes -/

theorem exec_loadInstr (dst : Reg) (s : State) : exec (loadInstr dst) s = perform 1 8 (opLoad dst) s := by
  cases dst <;> rfl

theorem exec_storeInstr (r : Reg) (s : State) : exec (storeInstr r) s = perform 1 7 (opStore r) s := by
  cases r <;> rfl

theorem exec_loadImmInstr (dst : Reg) (v : Byte) (s : State) :
    exec (loadImmInstr dst v) s = perform 2 8 (opLoadImm dst v) s := by
  cases dst <;> rfl

/-! ## When the operations fault -/

theorem opLoadFrom_error {s : State} {f : Fault} {a : Addr} {dst : Reg} :
    opLoadFrom a dst s = .error f ↔ s.cfg.memSize ≤ a.toNat ∧ f = .memoryBounds a.toNat := by
  rw [← memRead_error, opLoadFrom]
  cases memRead s a <;> simp

theorem opLoad_error {s : State} {f : Fault} {dst : Reg} :
    opLoad dst s = .error f ↔ s.cfg.memSize ≤ s.hl.toNat ∧ f = .memoryBounds s.hl.toNat := opLoadFrom_error

theorem opStore_error {s : State} {f : Fault} {r : Reg} :
    opStore r s = .error f ↔ s.cfg.memSize ≤ s.hl.toNat ∧ f = .memoryBounds s.hl.toNat := memWrite_error

/-! ## The obligations -/

/-- Settles O27: moving `pc` leaves `HL` and the memory alone, so the operation reads at the old `HL`. -/
theorem loadReadsMemoryAtHL : Obligations.LoadReadsMemoryAtHL := by
  intro dst s
  refine ⟨decode_of_implied (decodeOpcode_load dst) [], fun inside => ?_, fun outside => ?_⟩
  · rw [exec_loadInstr]
    exact perform_next.2 ⟨_, opLoad_ok.2 ⟨inside, rfl⟩, rfl⟩
  · rw [exec_loadInstr]
    exact perform_fault.2 (opLoad_error.2 ⟨outside, rfl⟩)

/-- Settles O28: the stored register is read after `pc` moves, which no register sees (`State.setPc_getReg`). -/
theorem storeWritesMemoryAtHL : Obligations.StoreWritesMemoryAtHL := by
  intro r s
  refine ⟨decode_of_implied (decodeOpcode_store r) [], fun inside => ?_, fun outside => ?_⟩
  · rw [exec_storeInstr, ← State.setPc_getReg s (s.pc + 1#16) r]
    exact perform_next.2 ⟨_, opStore_ok.2 ⟨inside, rfl⟩, rfl⟩
  · rw [exec_storeInstr]
    exact perform_fault.2 (opStore_error.2 ⟨outside, rfl⟩)

/-- Settles O29: the operation writes the register alone, whatever the memory size. -/
theorem loadImmediateWritesLiteral : Obligations.LoadImmediateWritesLiteral := by
  intro dst v s
  refine ⟨decode_of_immediate (decodeOpcode_loadImm dst) v [], ?_⟩
  rw [exec_loadImmInstr]
  exact perform_next.2 ⟨_, opLoadImm_ok.2 rfl, rfl⟩

end Sys2Proof.Machine
end

section
/-! The accumulator operations (R120 to R127). All eight operations share one argument: each of their three forms decodes
from one opcode family and executes as `opAlu` on its operand, so an operation's forms follow from its effect on A and the
flags alone. -/

namespace Sys2Proof

/-! ## The opcodes, one operation field each (R57) -/

theorem decodeOpcode_aluReg (op : AluOp) (r : Reg) :
    decodeOpcode (BitVec.ofNat 8 (0x80 + 8 * op.number + r.number)) = some (.implied (aluRegInstr op r)) := by
  cases op <;> cases r <;> rfl

theorem decodeOpcode_aluMem (op : AluOp) :
    decodeOpcode (BitVec.ofNat 8 (0x87 + 8 * op.number)) = some (.implied (aluMemInstr op)) := by
  cases op <;> rfl

theorem decodeOpcode_aluImm (op : AluOp) :
    decodeOpcode (BitVec.ofNat 8 (0x04 + 8 * op.number)) = some (.immediate (aluImmInstr op)) := by
  cases op <;> rfl

end Sys2Proof

namespace Sys2Proof.Machine

open Sys2Proof.Claims

variable {s : State} {f : Fault}

/-! ## The shared operation each form executes -/

theorem exec_aluRegInstr (op : AluOp) (r : Reg) (s : State) :
    exec (aluRegInstr op r) s = perform 1 5 (opAlu op (.reg r)) s := by
  cases op <;> cases r <;> rfl

theorem exec_aluMemInstr (op : AluOp) (s : State) : exec (aluMemInstr op) s = perform 1 8 (opAlu op .mem) s := by
  cases op <;> rfl

theorem exec_aluImmInstr (op : AluOp) (v : Byte) (s : State) :
    exec (aluImmInstr op v) s = perform 2 8 (opAlu op (.imm v)) s := by
  cases op <;> rfl

/-! ## The operation inside the frame of an instruction -/

/-- No operand is read through `pc`. -/
theorem readOperand_setPc (o : Operand) (a : Addr) : readOperand o (s.setPc a) = readOperand o s := by
  cases o with
  | reg r => simp [readOperand]
  | mem => rfl
  | imm v => rfl

theorem applyAlu_setPc (op : AluOp) (v : Byte) (a : Addr) : applyAlu op v (s.setPc a) = (applyAlu op v s).setPc a := by
  simp only [applyAlu]
  split <;> rfl

theorem opAlu_error {op : AluOp} {o : Operand} : opAlu op o s = .error f ↔ readOperand o s = .error f := by
  unfold opAlu
  cases readOperand o s <;> simp

/-- With an operand that can be read, the instruction completes: the operation's effect, then `pc` and the cost (R60). -/
theorem perform_opAlu_next {n c : Nat} {op : AluOp} {o : Operand} {v : Byte} (h : readOperand o s = .ok v) :
    perform n c (opAlu op o) s =
      .next { applyAlu op v s with pc := s.pc + BitVec.ofNat 16 n, cyc := s.cyc + c } := by
  refine perform_next.2 ⟨_, opAlu_ok.2 ⟨v, (readOperand_setPc o _).trans h, rfl⟩, ?_⟩
  rw [applyAlu_setPc, ← applyAlu_cyc op v]
  rfl

theorem perform_opAlu_fault {n c : Nat} {op : AluOp} {o : Operand} (h : readOperand o s = .error f) :
    perform n c (opAlu op o) s = .fault f :=
  perform_fault.2 (opAlu_error.2 ((readOperand_setPc o _).trans h))

/-- The three forms of an operation do what the operation does to its operand. -/
theorem aluForms_of_applyAlu {op : AluOp} {after : State → Byte → State} (h : ∀ s v, applyAlu op v s = after s v) :
    aluForms op after := by
  simp only [aluForms, ← h]
  refine ⟨fun r s => ⟨decode_of_implied (decodeOpcode_aluReg op r) [], ?_⟩,
    fun s => ⟨decode_of_implied (decodeOpcode_aluMem op) [], fun inside => ?_, fun outside => ?_⟩,
    fun v s => ⟨decode_of_immediate (decodeOpcode_aluImm op) v [], ?_⟩⟩
  · rw [exec_aluRegInstr]
    exact perform_opAlu_next rfl
  · rw [exec_aluMemInstr]
    exact perform_opAlu_next (memRead_of_lt inside)
  · rw [exec_aluMemInstr]
    exact perform_opAlu_fault (memRead_of_ge outside)
  · rw [exec_aluImmInstr]
    exact perform_opAlu_next rfl

/-! ## The effect on A and the flags -/

/-- The sign bit says that the byte, read unsigned, is at least 128. -/
theorem Flags.ofResult_eq (r : Byte) (carry : Bool) :
    Flags.ofResult r carry =
      { cf := carry, zf := decide (r = 0#8), sf := decide (128 ≤ r.toNat), pf := parityEven r } := by
  have sign : r[7] = decide (128 ≤ r.toNat) := BitVec.msb_eq_decide r
  rw [Flags.ofResult, sign]
  rfl

/-- Every operation but compare writes its result to A. -/
theorem applyAlu_eq_withResult {op : AluOp} (h : op ≠ .cp) (v : Byte) :
    applyAlu op v s =
      withResult s (aluResult op s.regs.a v s.flags.cf).1 (aluResult op s.regs.a v s.flags.cf).2 := by
  simp only [applyAlu, if_neg h, Flags.ofResult_eq]
  rfl

/-- `BitVec.ofNat` wraps by itself, so the reduction modulo 256 in `add8` is absorbed. -/
theorem add8_eq (a v : Byte) (cin : Bool) :
    add8 a v cin = (BitVec.ofNat 8 (a.toNat + v.toNat + cin.toNat), decide (255 < a.toNat + v.toNat + cin.toNat)) := by
  have wrap (n : Nat) : BitVec.ofNat 8 (n % 256) = BitVec.ofNat 8 n :=
    BitVec.eq_of_toNat_eq (by simp)
  simp only [add8, wrap, gt_iff_lt]

/-! ## The obligations -/

/-- Settles O32: the addition without carry is `add8` with no carry in. -/
theorem addForms : Obligations.AddForms :=
  aluForms_of_applyAlu fun s v => by
    rw [applyAlu_eq_withResult (op := .ad) nofun, aluResult, add8_eq]
    rfl

end Sys2Proof.Machine
end

section
/-! The unconditional jump (R173). -/

namespace Sys2Proof

theorem lowByte_eq_setWidth (a : Addr) : lowByte a = a.setWidth 8 := by
  rw [lowByte, BitVec.setWidth_eq_extractLsb' (by decide)]

theorem highByte_eq_setWidth (a : Addr) : highByte a = (a >>> 8).setWidth 8 := by
  apply BitVec.eq_of_toNat_eq
  rw [highByte_toNat, BitVec.toNat_setWidth, BitVec.toNat_ushiftRight, Nat.shiftRight_eq_div_pow]
  omega

/-- An absolute form takes the next two bytes as its target, low byte first (R51, R55). -/
theorem decode_of_absolute {op : Byte} {mk : Addr → Instr} (h : decodeOpcode op = some (.absolute mk)) (target : Addr)
    (rest : List Byte) :
    decode (op :: target.setWidth 8 :: (target >>> 8).setWidth 8 :: rest) = .ok (mk target, rest) := by
  rw [← lowByte_eq_setWidth, ← highByte_eq_setWidth]
  exact decode_absoluteBytes h target rest

/-- The eight aliases of `JMP`: bits 5 to 3 are ignored, kept as the operand of the term (R57). -/
theorem decodeOpcode_jmp (x : BitVec 3) :
    decodeOpcode (BitVec.ofNat 8 (0x44 + 8 * x.toNat)) = some (.absolute (.jmp x)) := by
  have fields : groupField (BitVec.ofNat 8 (0x44 + 8 * x.toNat)) = 1#2 ∧
      dField (BitVec.ofNat 8 (0x44 + 8 * x.toNat)) = x ∧ sField (BitVec.ofNat 8 (0x44 + 8 * x.toNat)) = 4#3 := by
    revert x
    decide
  obtain ⟨group, d, s⟩ := fields
  rw [decodeOpcode, group, d, s]
  rfl

end Sys2Proof

namespace Sys2Proof.Machine

/-- `JMP` ignores the bits `x`: it executes as a jump to its target at 11 cycles. -/
theorem exec_jmp (x : BitVec 3) (target : Addr) (s : State) :
    exec (.jmp x target) s = perform 3 11 (opJump target) s := rfl

/-- Settles O45: the operation overwrites the `pc` that has moved past the instruction, and nothing else. -/
theorem jumpSetsPc : Obligations.JumpSetsPc := by
  intro x target s
  refine ⟨decode_of_absolute (decodeOpcode_jmp x) target [], ?_⟩
  rw [exec_jmp]
  exact perform_next.2 ⟨_, opJump_ok.2 rfl, rfl⟩

end Sys2Proof.Machine
end

section
/-! The two round trips of the encoding (30_encoding.md sections 1 to 5). An opcode byte is its three fields, and a row
of the opcode map is a form together with the bytes its instructions have: `OpForm.isRow`. -/

namespace Sys2Proof

/-! ## An opcode byte and its fields (R52) -/

theorem field3_cases {P : BitVec 3 → Prop} (h0 : P 0#3) (h1 : P 1#3) (h2 : P 2#3) (h3 : P 3#3) (h4 : P 4#3)
    (h5 : P 5#3) (h6 : P 6#3) (h7 : P 7#3) (f : BitVec 3) : P f := by
  have all : f = 0#3 ∨ f = 1#3 ∨ f = 2#3 ∨ f = 3#3 ∨ f = 4#3 ∨ f = 5#3 ∨ f = 6#3 ∨ f = 7#3 := by
    revert f
    decide
  rcases all with rfl | rfl | rfl | rfl | rfl | rfl | rfl | rfl <;> assumption

theorem opcode_eq_fields (op : Byte) : op = groupField op ++ dField op ++ sField op := by
  apply BitVec.eq_of_getLsbD_eq
  intro k hk
  simp only [groupField, dField, sField, BitVec.getLsbD_append, BitVec.getLsbD_extractLsb']
  rcases k with _ | _ | _ | _ | _ | _ | _ | _ | k <;> simp

/-- The fields of a byte written as its fields. -/
theorem fields_append (g : BitVec 2) (d s : BitVec 3) :
    groupField (g ++ d ++ s) = g ∧ dField (g ++ d ++ s) = d ∧ sField (g ++ d ++ s) = s := by
  revert g d s
  decide

theorem decodeOpcode_group0 (d s : BitVec 3) : decodeOpcode (0b00#2 ++ d ++ s) = decodeGroup0 d s := by
  obtain ⟨group, hd, hs⟩ := fields_append 0b00#2 d s
  rw [decodeOpcode, group, hd, hs]
  rfl

theorem decodeOpcode_group1 (d s : BitVec 3) :
    decodeOpcode (0b01#2 ++ d ++ s) = decodeGroup1 d s (portField (0b01#2 ++ d ++ s)) := by
  obtain ⟨group, hd, hs⟩ := fields_append 0b01#2 d s
  rw [decodeOpcode, group, hd, hs]
  rfl

theorem decodeOpcode_group2 (d s : BitVec 3) : decodeOpcode (0b10#2 ++ d ++ s) = decodeGroup2 d s := by
  obtain ⟨group, hd, hs⟩ := fields_append 0b10#2 d s
  rw [decodeOpcode, group, hd, hs]
  rfl

theorem decodeOpcode_group3 (d s : BitVec 3) : decodeOpcode (0b11#2 ++ d ++ s) = decodeGroup3 d s := by
  obtain ⟨group, hd, hs⟩ := fields_append 0b11#2 d s
  rw [decodeOpcode, group, hd, hs]
  rfl

/-! ## The rows with an operand field -/

theorem decodeOpcode_hlt (x : BitVec 1) : decodeOpcode (0b0000000#7 ++ x) = some (.implied (.hlt x)) := by
  have values : x = 0#1 ∨ x = 1#1 := by
    revert x
    decide
  rcases values with rfl | rfl <;> rfl

theorem decodeOpcode_ret (x : BitVec 3) : decodeOpcode (0b00#2 ++ x ++ 0b111#3) = some (.implied (.ret x)) := by
  rw [decodeOpcode_group0]
  rfl

theorem decodeOpcode_jmp_fields (x : BitVec 3) :
    decodeOpcode (0b01#2 ++ x ++ 0b100#3) = some (.absolute (.jmp x)) := by
  rw [decodeOpcode_group1]
  rfl

theorem decodeOpcode_cal_fields (x : BitVec 3) :
    decodeOpcode (0b01#2 ++ x ++ 0b110#3) = some (.absolute (.cal x)) := by
  rw [decodeOpcode_group1]
  rfl

/-- The odd opcodes of group 1 are the port opcodes (R57). -/
theorem decodeGroup1_of_odd {s : BitVec 3} (d : BitVec 3) (port : Port) (h : s.toNat % 2 = 1) :
    decodeGroup1 d s port = some (.implied (portInstr port)) := by
  unfold decodeGroup1
  split
  case h_5 => rfl
  all_goals omega

theorem decodeOpcode_port (port : Port) :
    decodeOpcode (0b01#2 ++ port ++ 0b1#1) = some (.implied (portInstr port)) := by
  have fields : groupField (0b01#2 ++ port ++ 0b1#1) = 0b01#2 ∧ portField (0b01#2 ++ port ++ 0b1#1) = port ∧
      (sField (0b01#2 ++ port ++ 0b1#1)).toNat % 2 = 1 := by
    revert port
    decide
  obtain ⟨group, hport, odd⟩ := fields
  rw [decodeOpcode, group, hport]
  exact decodeGroup1_of_odd _ port odd

/-- The four rows of the port opcodes split the port numbers by eights (R186, R187). -/
theorem portInstr_eq (port : Port) :
    portInstr port = if port.toNat < 8 then .inp port else if port.toNat < 16 then .out8 port
      else if port.toNat < 24 then .out16 port else .out24 port := by
  have rows : port.toNat / 8 = 0 ∨ port.toNat / 8 = 1 ∨ port.toNat / 8 = 2 ∨ port.toNat / 8 = 3 := by omega
  rcases rows with h | h | h | h <;> simp only [portInstr, h]
  · rw [if_pos (by omega)]
  · rw [if_neg (by omega), if_pos (by omega)]
  · rw [if_neg (by omega), if_neg (by omega), if_pos (by omega)]
  · rw [if_neg (by omega), if_neg (by omega), if_neg (by omega)]

theorem decode_port (port : Port) (rest : List Byte) :
    decode ((0b01#2 ++ port ++ 0b1#1) :: rest) = .ok (portInstr port, rest) :=
  decode_of_implied (decodeOpcode_port port) rest

/-! ## Decoding what was encoded -/

/-- Settles O1: a fixed opcode is evaluated; the rows with an operand field have their lemma each. -/
theorem decodeEncodeRoundTrip : Obligations.DecodeEncodeRoundTrip := by
  intro i rest wf
  cases i with
  | hlt x => exact decode_of_implied (decodeOpcode_hlt x) rest
  | ret x => exact decode_of_implied (decodeOpcode_ret x) rest
  | jmp x target => exact decode_absoluteBytes (decodeOpcode_jmp_fields x) target rest
  | cal x target => exact decode_absoluteBytes (decodeOpcode_cal_fields x) target rest
  | inp port =>
    have range : port.toNat < 8 := of_decide_eq_true wf
    exact (decode_port port rest).trans (by rw [portInstr_eq, if_pos range])
  | out8 port =>
    obtain ⟨low, high⟩ : 8 ≤ port.toNat ∧ port.toNat < 16 := by simpa [Instr.wellFormed] using wf
    exact (decode_port port rest).trans (by rw [portInstr_eq, if_neg (by omega), if_pos high])
  | out16 port =>
    obtain ⟨low, high⟩ : 16 ≤ port.toNat ∧ port.toNat < 24 := by simpa [Instr.wellFormed] using wf
    exact (decode_port port rest).trans (by rw [portInstr_eq, if_neg (by omega), if_neg (by omega), if_pos high])
  | out24 port =>
    have range : 24 ≤ port.toNat := of_decide_eq_true wf
    exact (decode_port port rest).trans
      (by rw [portInstr_eq, if_neg (by omega), if_neg (by omega), if_neg (by omega)])
  | jfc target | jfz target | jfs target | jfp target | jtc target | jtz target | jts target | jtp target
  | cfc target | cfz target | cfs target | cfp target | ctc target | ctz target | cts target | ctp target =>
    exact decode_absoluteBytes rfl target rest
  | _ => rfl

/-! ## Encoding what was decoded -/

/-- A form is the row of the opcode map for an opcode byte: its instructions are well formed, their bytes are that
opcode and the operand, and the operand changes neither the mnemonic nor the cost. No row is Relative (R62). -/
def OpForm.isRow (op : Byte) : OpForm → Prop
  | .implied i => i.wellFormed = true ∧ encode i = [op]
  | .immediate mk => ∀ v, (mk v).wellFormed = true ∧ encode (mk v) = [op, v] ∧
      (mk v).mnemonic = (mk 0#8).mnemonic ∧ (mk v).cost = (mk 0#8).cost
  | .absolute mk => ∀ a, (mk a).wellFormed = true ∧ encode (mk a) = absoluteBytes op a ∧
      (mk a).mnemonic = (mk 0#16).mnemonic ∧ (mk a).cost = (mk 0#16).cost
  | .relative => False

/-- In an odd opcode of group 1 the fields hold a port number. -/
theorem port_opcode_eq {d s : BitVec 3} (h : s.toNat % 2 = 1) :
    0b01#2 ++ d ++ s = 0b01#2 ++ portField (0b01#2 ++ d ++ s) ++ 0b1#1 := by
  revert d s
  decide

theorem isRow_portInstr (port : Port) : (OpForm.implied (portInstr port)).isRow (0b01#2 ++ port ++ 0b1#1) := by
  rw [portInstr_eq]
  split
  · next h => exact ⟨decide_eq_true h, rfl⟩
  · split
    · exact ⟨by simp only [Instr.wellFormed, Bool.and_eq_true, decide_eq_true_eq]; omega, rfl⟩
    · split
      · exact ⟨by simp only [Instr.wellFormed, Bool.and_eq_true, decide_eq_true_eq]; omega, rfl⟩
      · next h => exact ⟨decide_eq_true (Nat.le_of_not_lt h), rfl⟩

theorem isRow_of_decodeGroup0 {d s : BitVec 3} {form : OpForm} (h : decodeGroup0 d s = some form) :
    form.isRow (0b00#2 ++ d ++ s) := by
  induction s using field3_cases with
  | h0 | h1 | h2 | h7 => induction d using field3_cases <;> cases h <;> exact ⟨rfl, rfl⟩
  | h4 | h6 => induction d using field3_cases <;> cases h <;> exact fun v => ⟨rfl, rfl, rfl, rfl⟩
  | h3 | h5 => cases h

theorem isRow_of_decodeGroup1 {d s : BitVec 3} {form : OpForm}
    (h : decodeGroup1 d s (portField (0b01#2 ++ d ++ s)) = some form) : form.isRow (0b01#2 ++ d ++ s) := by
  by_cases odd : s.toNat % 2 = 1
  · cases (decodeGroup1_of_odd d _ odd).symm.trans h
    have row := isRow_portInstr (portField (0b01#2 ++ d ++ s))
    rwa [← port_opcode_eq odd] at row
  · induction s using field3_cases with
    | h0 | h2 | h4 | h6 => induction d using field3_cases <;> cases h <;> exact fun a => ⟨rfl, rfl, rfl, rfl⟩
    | h1 | h3 | h5 | h7 => exact absurd rfl odd

theorem isRow_of_decodeGroup2 {d s : BitVec 3} {form : OpForm} (h : decodeGroup2 d s = some form) :
    form.isRow (0b10#2 ++ d ++ s) := by
  induction s using field3_cases <;> cases h <;> induction d using field3_cases <;> exact ⟨rfl, rfl⟩

theorem isRow_of_decodeGroup3 {d s : BitVec 3} {form : OpForm} (h : decodeGroup3 d s = some form) :
    form.isRow (0b11#2 ++ d ++ s) := by
  induction s using field3_cases <;> induction d using field3_cases <;> cases h <;> exact ⟨rfl, rfl⟩

/-- What the decoder selects for an opcode is the row of that opcode, group by group. -/
theorem isRow_of_decodeOpcode {op : Byte} {form : OpForm} (h : decodeOpcode op = some form) : form.isRow op := by
  rw [opcode_eq_fields op] at h ⊢
  generalize groupField op = g, dField op = d, sField op = s at h ⊢
  have groups : g = 0b00#2 ∨ g = 0b01#2 ∨ g = 0b10#2 ∨ g = 0b11#2 := by
    clear h
    revert g
    decide
  rcases groups with rfl | rfl | rfl | rfl
  · exact isRow_of_decodeGroup0 ((decodeOpcode_group0 d s).symm.trans h)
  · exact isRow_of_decodeGroup1 ((decodeOpcode_group1 d s).symm.trans h)
  · exact isRow_of_decodeGroup2 ((decodeOpcode_group2 d s).symm.trans h)
  · exact isRow_of_decodeGroup3 ((decodeOpcode_group3 d s).symm.trans h)

/-- An instruction read from a row is well formed and encodes to the opcode and the operand bytes it was read from. -/
theorem encode_of_decodeForm {op : Byte} {form : OpForm} {bytes rest : List Byte} {i : Instr} (row : form.isRow op)
    (h : decodeForm op form bytes = .ok (i, rest)) : i.wellFormed = true ∧ encode i ++ rest = op :: bytes := by
  unfold decodeForm at h
  split at h <;> cases h
  case h_1 =>
    obtain ⟨wf, bytes_eq⟩ := row
    exact ⟨wf, by rw [bytes_eq]; rfl⟩
  case h_2 v =>
    obtain ⟨wf, bytes_eq, _⟩ := row v
    exact ⟨wf, by rw [bytes_eq]; rfl⟩
  case h_4 lo hi =>
    obtain ⟨wf, bytes_eq, _⟩ := row (addrOfBytes lo hi)
    exact ⟨wf, by rw [bytes_eq, absoluteBytes, lowByte_addrOfBytes, highByte_addrOfBytes]; rfl⟩

/-- Settles O2: what decodes is an instruction of the row of its opcode. -/
theorem encodeDecodeRoundTrip : Obligations.EncodeDecodeRoundTrip := by
  intro bytes rest i h
  unfold decode at h
  split at h
  · cases h
  · split at h
    · cases h
    · next form hform => exact encode_of_decodeForm (isRow_of_decodeOpcode hform) h

end Sys2Proof
end

section
/-! The shared operation of each instruction. The 184 meanings are seventeen operations with operands; an `Action` names
one, and each of its functions below is tied to the model once (`exec_eq_perform`, `destination_eq`, …), so that a claim
about all instructions is a claim about seventeen operations. -/

namespace Sys2Proof.Machine

/-- The operation of an instruction rule, with its operands (Machine/Ops.lean, Machine/Operands.lean). -/
inductive Action where
  | nothing
  | move (dst src : Reg)
  | load (dst : Reg)
  | store (src : Reg)
  | loadImm (dst : Reg) (v : Byte)
  | storeImm (v : Byte)
  | alu (op : AluOp) (o : Operand)
  | increment (r : Reg)
  | decrement (r : Reg)
  | rotate (g : Byte → Bool → Byte × Bool)
  | jump (a : Addr)
  | jumpIf (flag : FlagName) (sense : Bool) (a : Addr)
  | call (a : Addr)
  | callIf (flag : FlagName) (sense : Bool) (a : Addr)
  | ret
  | input (p : Port)
  | output (p : Port)

/-- The operation of the model that an action names. -/
def Action.run : Action → State → Except Fault State
  | .nothing => opNothing
  | .move dst src => opMove dst src
  | .load dst => opLoad dst
  | .store src => opStore src
  | .loadImm dst v => opLoadImm dst v
  | .storeImm v => opStoreImm v
  | .alu op o => opAlu op o
  | .increment r => opIncrement r
  | .decrement r => opDecrement r
  | .rotate g => opRotate g
  | .jump a => opJump a
  | .jumpIf flag sense a => opJumpIf flag sense a
  | .call a => opCall a
  | .callIf flag sense a => opCallIf flag sense a
  | .ret => opReturn
  | .input p => opInput p
  | .output p => opOutput p

end Sys2Proof.Machine

namespace Sys2Proof

open Sys2Proof.Machine

/-- The action of an instruction, read off its rule (files 40_ to 45_). -/
def Instr.action : Instr → Action
  | .hlt _ => .nothing | .rlc => .rotate (fun v _ => rotateLeft v) | .adi v => .alu .ad (.imm v)
  | .lai v => .loadImm .a v | .ret _ => .ret | .inb => .increment .b | .dcb => .decrement .b
  | .rrc => .rotate (fun v _ => rotateRight v) | .aci v => .alu .ac (.imm v) | .lbi v => .loadImm .b v
  | .inc => .increment .c | .dcc => .decrement .c | .ral => .rotate rotateLeftCarry | .sui v => .alu .su (.imm v)
  | .lci v => .loadImm .c v | .ind => .increment .d | .dcd => .decrement .d | .rar => .rotate rotateRightCarry
  | .sbi v => .alu .sb (.imm v) | .ldi v => .loadImm .d v | .ine => .increment .e | .dce => .decrement .e
  | .ndi v => .alu .nd (.imm v) | .lei v => .loadImm .e v | .inh => .increment .h | .dch => .decrement .h
  | .xri v => .alu .xr (.imm v) | .lhi v => .loadImm .h v | .inl => .increment .l | .dcl => .decrement .l
  | .ori v => .alu .or (.imm v) | .lli v => .loadImm .l v | .cpi v => .alu .cp (.imm v) | .lmi v => .storeImm v
  | .jfc a => .jumpIf .carry false a | .inp p => .input p | .cfc a => .callIf .carry false a | .jmp _ a => .jump a
  | .cal _ a => .call a | .jfz a => .jumpIf .zero false a | .cfz a => .callIf .zero false a
  | .jfs a => .jumpIf .sign false a | .out8 p => .output p | .cfs a => .callIf .sign false a
  | .jfp a => .jumpIf .parity false a | .cfp a => .callIf .parity false a | .jtc a => .jumpIf .carry true a
  | .out16 p => .output p | .ctc a => .callIf .carry true a | .jtz a => .jumpIf .zero true a
  | .ctz a => .callIf .zero true a | .jts a => .jumpIf .sign true a | .out24 p => .output p
  | .cts a => .callIf .sign true a | .jtp a => .jumpIf .parity true a | .ctp a => .callIf .parity true a
  | .ada => .alu .ad (.reg .a) | .adb => .alu .ad (.reg .b) | .adc => .alu .ad (.reg .c) | .add => .alu .ad (.reg .d)
  | .ade => .alu .ad (.reg .e) | .adh => .alu .ad (.reg .h) | .adl => .alu .ad (.reg .l) | .adm => .alu .ad .mem
  | .aca => .alu .ac (.reg .a) | .acb => .alu .ac (.reg .b) | .acc => .alu .ac (.reg .c) | .acd => .alu .ac (.reg .d)
  | .ace => .alu .ac (.reg .e) | .ach => .alu .ac (.reg .h) | .acl => .alu .ac (.reg .l) | .acm => .alu .ac .mem
  | .sua => .alu .su (.reg .a) | .sub => .alu .su (.reg .b) | .suc => .alu .su (.reg .c) | .sud => .alu .su (.reg .d)
  | .sue => .alu .su (.reg .e) | .suh => .alu .su (.reg .h) | .sul => .alu .su (.reg .l) | .sum => .alu .su .mem
  | .sba => .alu .sb (.reg .a) | .sbb => .alu .sb (.reg .b) | .sbc => .alu .sb (.reg .c) | .sbd => .alu .sb (.reg .d)
  | .sbe => .alu .sb (.reg .e) | .sbh => .alu .sb (.reg .h) | .sbl => .alu .sb (.reg .l) | .sbm => .alu .sb .mem
  | .nda => .alu .nd (.reg .a) | .ndb => .alu .nd (.reg .b) | .ndc => .alu .nd (.reg .c) | .ndd => .alu .nd (.reg .d)
  | .nde => .alu .nd (.reg .e) | .ndh => .alu .nd (.reg .h) | .ndl => .alu .nd (.reg .l) | .ndm => .alu .nd .mem
  | .xra => .alu .xr (.reg .a) | .xrb => .alu .xr (.reg .b) | .xrc => .alu .xr (.reg .c) | .xrd => .alu .xr (.reg .d)
  | .xre => .alu .xr (.reg .e) | .xrh => .alu .xr (.reg .h) | .xrl => .alu .xr (.reg .l) | .xrm => .alu .xr .mem
  | .ora => .alu .or (.reg .a) | .orb => .alu .or (.reg .b) | .orc => .alu .or (.reg .c) | .ord => .alu .or (.reg .d)
  | .ore => .alu .or (.reg .e) | .orh => .alu .or (.reg .h) | .orl => .alu .or (.reg .l) | .orm => .alu .or .mem
  | .cpa => .alu .cp (.reg .a) | .cpb => .alu .cp (.reg .b) | .cpc => .alu .cp (.reg .c) | .cpd => .alu .cp (.reg .d)
  | .cpe => .alu .cp (.reg .e) | .cph => .alu .cp (.reg .h) | .cpl => .alu .cp (.reg .l) | .cpm => .alu .cp .mem
  | .nop => .nothing | .lab => .move .a .b | .lac => .move .a .c | .lad => .move .a .d | .lae => .move .a .e
  | .lah => .move .a .h | .lal => .move .a .l | .lam => .load .a | .lba => .move .b .a | .lbb => .move .b .b
  | .lbc => .move .b .c | .lbd => .move .b .d | .lbe => .move .b .e | .lbh => .move .b .h | .lbl => .move .b .l
  | .lbm => .load .b | .lca => .move .c .a | .lcb => .move .c .b | .lcc => .move .c .c | .lcd => .move .c .d
  | .lce => .move .c .e | .lch => .move .c .h | .lcl => .move .c .l | .lcm => .load .c | .lda => .move .d .a
  | .ldb => .move .d .b | .ldc => .move .d .c | .ldd => .move .d .d | .lde => .move .d .e | .ldh => .move .d .h
  | .ldl => .move .d .l | .ldm => .load .d | .lea => .move .e .a | .leb => .move .e .b | .lec => .move .e .c
  | .led => .move .e .d | .lee => .move .e .e | .leh => .move .e .h | .lel => .move .e .l | .lem => .load .e
  | .lha => .move .h .a | .lhb => .move .h .b | .lhc => .move .h .c | .lhd => .move .h .d | .lhe => .move .h .e
  | .lhh => .move .h .h | .lhl => .move .h .l | .lhm => .load .h | .lla => .move .l .a | .llb => .move .l .b
  | .llc => .move .l .c | .lld => .move .l .d | .lle => .move .l .e | .llh => .move .l .h | .lll => .move .l .l
  | .llm => .load .l | .lma => .store .a | .lmb => .store .b | .lmc => .store .c | .lmd => .store .d
  | .lme => .store .e | .lmh => .store .h | .lml => .store .l | .hltFF => .nothing

end Sys2Proof

namespace Sys2Proof.Machine

/-- Every instruction runs its action in the frame of R60, with the length of its encoding and its declared cost. -/
theorem exec_eq_perform (i : Instr) (s : State) :
    exec i s = perform (encode i).length (i.cost.value s.cfg) i.action.run s := by
  cases i <;> rfl

/-! ## What an action touches -/

/-- The value of an operand, where it can be read. -/
def Operand.value (s : State) : Operand → Byte
  | .reg r => s.getReg r
  | .mem => Memory.read s.mem s.hl.toNat
  | .imm v => v

/-- The register an action writes, if any. -/
def Action.destination : Action → Option Reg
  | .move dst _ | .load dst | .loadImm dst _ | .increment dst | .decrement dst => some dst
  | .alu op _ => if op = .cp then none else some .a
  | .rotate _ | .input _ => some .a
  | .nothing | .store _ | .storeImm _ | .jump _ | .jumpIf _ _ _ | .call _ | .callIf _ _ _ | .ret | .output _ => none

/-- The flags an action writes (R18). -/
def Action.flagsWritten : Action → List FlagName
  | .alu _ _ => [.carry, .zero, .sign, .parity]
  | .increment _ | .decrement _ => [.zero, .sign, .parity]
  | .rotate _ => [.carry]
  | .nothing | .move _ _ | .load _ | .store _ | .loadImm _ _ | .storeImm _ | .jump _ | .jumpIf _ _ _ | .call _
  | .callIf _ _ _ | .ret | .input _ | .output _ => []

/-- The addresses an action reads, in order (R32). -/
def Action.loadAddresses (s : State) : Action → List Addr
  | .load _ | .alu _ .mem => [s.hl]
  | .ret => s.returnSlots
  | .input p => [s.ioAddr p]
  | .nothing | .move _ _ | .store _ | .loadImm _ _ | .storeImm _ | .alu _ (.reg _) | .alu _ (.imm _) | .increment _
  | .decrement _ | .rotate _ | .jump _ | .jumpIf _ _ _ | .call _ | .callIf _ _ _ | .output _ => []

/-- The two cells of a call, in the order in which they are stored (R171, R176). -/
def State.callCells (s : State) : List (Addr × Byte) :=
  [(slotAddr (s.sp - 1#8), highByte s.pc), (slotAddr (s.sp - 2#8), lowByte s.pc)]

/-- The cells an action stores, in order. -/
def Action.cells (s : State) : Action → List (Addr × Byte)
  | .store r => [(s.hl, s.getReg r)]
  | .storeImm v => [(s.hl, v)]
  | .call _ => s.callCells
  | .callIf flag sense _ => if s.getFlag flag = sense then s.callCells else []
  | .output p => [(s.ioAddr p, s.regs.a)]
  | .nothing | .move _ _ | .load _ | .loadImm _ _ | .alu _ _ | .increment _ | .decrement _ | .rotate _ | .jump _
  | .jumpIf _ _ _ | .ret | .input _ => []

/-- The stack pointer after an action (R15). -/
def Action.spAfter (s : State) : Action → Byte
  | .call _ => s.sp - 2#8
  | .callIf flag sense _ => if s.getFlag flag = sense then s.sp - 2#8 else s.sp
  | .ret => s.sp + 2#8
  | .nothing | .move _ _ | .load _ | .store _ | .loadImm _ _ | .storeImm _ | .alu _ _ | .increment _ | .decrement _
  | .rotate _ | .jump _ | .jumpIf _ _ _ | .input _ | .output _ => s.sp

theorem destination_eq (i : Instr) : i.destination = i.action.destination := by
  cases i <;> rfl

theorem flagsWritten_eq (i : Instr) : i.flagsWritten = i.action.flagsWritten := by
  cases i <;> rfl

theorem loadAddresses_eq (i : Instr) (s : State) : i.loadAddresses s = i.action.loadAddresses s := by
  cases i <;> rfl

theorem map_fst_callIf (s : State) (flag : FlagName) (sense : Bool) (a : Addr) :
    ((Action.callIf flag sense a).cells s).map Prod.fst = s.callSlotsIf flag sense := by
  simp only [Action.cells, State.callSlotsIf]
  split <;> rfl

theorem storeAddresses_eq (i : Instr) (s : State) : i.storeAddresses s = (i.action.cells s).map Prod.fst := by
  cases i with
  | cfc a | cfz a | cfs a | cfp a | ctc a | ctz a | cts a | ctp a => exact (map_fst_callIf s _ _ a).symm
  | _ => rfl

theorem spAfter_eq (i : Instr) (s : State) : i.spAfter s = i.action.spAfter s := by
  cases i <;> rfl

/-! ## What an action does -/

/-- Cells stored one after another. -/
def Memory.writeAll (m : Memory) : List (Addr × Byte) → Memory
  | [] => m
  | (a, v) :: cells => Memory.writeAll (Memory.write m a.toNat v) cells

/-- The state after an action whose addresses all exist. -/
def Action.result (s : State) : Action → State
  | .nothing => s
  | .move dst src => s.setReg dst (s.getReg src)
  | .load dst => s.setReg dst (Memory.read s.mem s.hl.toNat)
  | .store r => s.setMem (Memory.writeAll s.mem [(s.hl, s.getReg r)])
  | .loadImm dst v => s.setReg dst v
  | .storeImm v => s.setMem (Memory.writeAll s.mem [(s.hl, v)])
  | .alu op o => applyAlu op (o.value s) s
  | .increment r => (s.setReg r (s.getReg r + 1#8)).setFlags (s.flags.setZSP (s.getReg r + 1#8))
  | .decrement r => (s.setReg r (s.getReg r - 1#8)).setFlags (s.flags.setZSP (s.getReg r - 1#8))
  | .rotate g => (s.setReg .a (g s.regs.a s.flags.cf).1).setFlags { s.flags with cf := (g s.regs.a s.flags.cf).2 }
  | .jump a => s.setPc a
  | .jumpIf flag sense a => if s.getFlag flag = sense then s.setPc a else s
  | .call a => ((s.setMem (Memory.writeAll s.mem s.callCells)).setSp (s.sp - 2#8)).setPc a
  | .callIf flag sense a =>
    if s.getFlag flag = sense then ((s.setMem (Memory.writeAll s.mem s.callCells)).setSp (s.sp - 2#8)).setPc a else s
  | .ret =>
    (s.setSp (s.sp + 2#8)).setPc (addrOfBytes (Memory.read s.mem s.sp.toNat) (Memory.read s.mem (s.sp + 1#8).toNat))
  | .input p => s.setReg .a (Memory.read s.mem (s.ioAddr p).toNat)
  | .output p => s.setMem (Memory.writeAll s.mem [(s.ioAddr p, s.regs.a)])

/-- The data addresses of an action, in the order in which it checks them (R32). -/
def Action.dataAddresses (s : State) (a : Action) : List Addr := a.loadAddresses s ++ (a.cells s).map Prod.fst

theorem dataAddresses_eq (i : Instr) (s : State) : i.dataAddresses s = i.action.dataAddresses s := by
  rw [Instr.dataAddresses, loadAddresses_eq, storeAddresses_eq, Action.dataAddresses]

/-- An address lies outside memory (R33). -/
def State.lacks (s : State) (a : Addr) : Bool := decide (s.cfg.memSize ≤ a.toNat)

theorem exists_of_lacks_eq_false {s : State} {a : Addr} (h : s.lacks a = false) : a.toNat < s.cfg.memSize :=
  Nat.lt_of_not_le (of_decide_eq_false h)

variable {s : State}

theorem find?_lacks_singleton {x b : Addr} (h : [x].find? s.lacks = some b) :
    s.cfg.memSize ≤ b.toNat ∧ b = x := by
  obtain ⟨found, rfl⟩ : s.lacks x = true ∧ x = b := by simpa [List.find?_singleton] using h
  exact ⟨of_decide_eq_true found, rfl⟩

theorem find?_lacks_pair {x y b : Addr} (h : [x, y].find? s.lacks = some b) :
    s.cfg.memSize ≤ b.toNat ∧ (b = x ∨ x.toNat < s.cfg.memSize ∧ b = y) := by
  cases first : s.lacks x with
  | true =>
    obtain rfl : x = b := by simpa [List.find?_cons, first] using h
    exact ⟨of_decide_eq_true first, .inl rfl⟩
  | false =>
    rw [List.find?_cons, first] at h
    obtain ⟨outside, rfl⟩ := find?_lacks_singleton h
    exact ⟨outside, .inr ⟨exists_of_lacks_eq_false first, rfl⟩⟩

/-! ## When an action completes -/

theorem readOperand_ok {op : AluOp} {o : Operand}
    (h : ∀ x ∈ (Action.alu op o).loadAddresses s, x.toNat < s.cfg.memSize) : readOperand o s = .ok (o.value s) := by
  cases o with
  | reg r => rfl
  | mem => exact memRead_of_lt (h _ (List.mem_singleton_self _))
  | imm v => rfl

theorem opCall_ok_of_slots {a : Addr} (h : ∀ x ∈ s.callCells.map Prod.fst, x.toNat < s.cfg.memSize) :
    opCall a s = .ok ((s.setMem (Memory.writeAll s.mem s.callCells)).setSp (s.sp - 2#8) |>.setPc a) := by
  have high := h (slotAddr (s.sp - 1#8)) (by simp [State.callCells])
  have low := h (slotAddr (s.sp - 2#8)) (by simp [State.callCells])
  rw [slotAddr_toNat] at high low
  refine opCall_ok.2 ⟨_, push16_ok.2 ⟨high, low, rfl⟩, ?_⟩
  simp only [State.callCells, Memory.writeAll, slotAddr_toNat]

/-- An action whose addresses all exist completes in its result (R32, R33). -/
theorem Action.run_ok (a : Action) (h : ∀ x ∈ a.dataAddresses s, x.toNat < s.cfg.memSize) :
    a.run s = .ok (a.result s) := by
  have loads : ∀ x ∈ a.loadAddresses s, x.toNat < s.cfg.memSize := fun x hx => h x (List.mem_append_left _ hx)
  have stores : ∀ x ∈ (a.cells s).map Prod.fst, x.toNat < s.cfg.memSize := fun x hx => h x (List.mem_append_right _ hx)
  cases a with
  | nothing | move | loadImm | increment | decrement | rotate | jump => rfl
  | load dst => exact opLoad_ok.2 ⟨loads _ (List.mem_singleton_self _), rfl⟩
  | store r => exact opStore_ok.2 ⟨stores _ (List.mem_singleton_self _), rfl⟩
  | storeImm v => exact opStoreImm_ok.2 ⟨stores _ (List.mem_singleton_self _), rfl⟩
  | alu op o => exact opAlu_ok.2 ⟨_, readOperand_ok loads, rfl⟩
  | jumpIf flag sense a => exact opJumpIf_ok.2 rfl
  | call a => exact opCall_ok_of_slots stores
  | callIf flag sense a =>
    by_cases taken : s.getFlag flag = sense
    · simp only [Action.cells, if_pos taken] at stores
      simp only [Action.run, opCallIf, Action.result, if_pos taken, opCall_ok_of_slots stores]
    · simp only [Action.run, opCallIf, Action.result, if_neg taken]
  | ret =>
    have low := loads (slotAddr s.sp) (by simp [Action.loadAddresses, State.returnSlots])
    have high := loads (slotAddr (s.sp + 1#8)) (by simp [Action.loadAddresses, State.returnSlots])
    rw [slotAddr_toNat] at low high
    exact opReturn_ok.2 ⟨_, _, pop16_ok.2 ⟨low, high, rfl, rfl⟩, rfl⟩
  | input p => exact opInput_ok.2 ⟨loads _ (List.mem_singleton_self _), rfl⟩
  | output p => exact opOutput_ok.2 ⟨stores _ (List.mem_singleton_self _), rfl⟩

/-! ## When an action faults -/

theorem push16_error_of_high {v : Addr} (h : s.cfg.memSize ≤ (s.sp - 1#8).toNat) :
    push16 v s = .error (.memoryBounds (s.sp - 1#8).toNat) := by
  simp only [push16, slotAddr_toNat, if_pos h]

theorem push16_error_of_low {v : Addr} (h1 : (s.sp - 1#8).toNat < s.cfg.memSize)
    (h2 : s.cfg.memSize ≤ (s.sp - 2#8).toNat) : push16 v s = .error (.memoryBounds (s.sp - 2#8).toNat) := by
  simp only [push16, slotAddr_toNat, if_neg (Nat.not_le.2 h1), if_pos h2]

theorem pop16_error_of_low (h : s.cfg.memSize ≤ s.sp.toNat) : pop16 s = .error (.memoryBounds s.sp.toNat) := by
  simp only [pop16, slotAddr_toNat, if_pos h]

theorem pop16_error_of_high (h1 : s.sp.toNat < s.cfg.memSize) (h2 : s.cfg.memSize ≤ (s.sp + 1#8).toNat) :
    pop16 s = .error (.memoryBounds (s.sp + 1#8).toNat) := by
  simp only [pop16, slotAddr_toNat, if_neg (Nat.not_le.2 h1), if_pos h2]

theorem opCall_error {a : Addr} {f : Fault} (h : push16 s.pc s = .error f) : opCall a s = .error f := by
  simp only [opCall, h]

theorem opReturn_error {f : Fault} (h : pop16 s = .error f) : opReturn s = .error f := by
  simp only [opReturn, h]

theorem opCall_error_of_find? {a b : Addr} (h : (s.callCells.map Prod.fst).find? s.lacks = some b) :
    opCall a s = .error (.memoryBounds b.toNat) := by
  obtain ⟨outside, rfl | ⟨high, rfl⟩⟩ := find?_lacks_pair h <;> rw [slotAddr_toNat] at *
  · exact opCall_error (push16_error_of_high outside)
  · exact opCall_error (push16_error_of_low high outside)

theorem opReturn_error_of_find? {b : Addr} (h : s.returnSlots.find? s.lacks = some b) :
    opReturn s = .error (.memoryBounds b.toNat) := by
  obtain ⟨outside, rfl | ⟨low, rfl⟩⟩ := find?_lacks_pair h <;> rw [slotAddr_toNat] at *
  · exact opReturn_error (pop16_error_of_low outside)
  · exact opReturn_error (pop16_error_of_high low outside)

/-- An action faults on the first of its addresses outside memory (R33 to R35, R242). -/
theorem Action.run_error (a : Action) {b : Addr} (h : (a.dataAddresses s).find? s.lacks = some b) :
    a.run s = .error (.memoryBounds b.toNat) := by
  cases a with
  | nothing | move | loadImm | increment | decrement | rotate | jump | jumpIf => cases h
  | load dst =>
    obtain ⟨outside, rfl⟩ := find?_lacks_singleton h
    exact opLoad_error.2 ⟨outside, rfl⟩
  | store r =>
    obtain ⟨outside, rfl⟩ := find?_lacks_singleton h
    exact opStore_error.2 ⟨outside, rfl⟩
  | storeImm v =>
    obtain ⟨outside, rfl⟩ := find?_lacks_singleton h
    exact memWrite_error.2 ⟨outside, rfl⟩
  | alu op o =>
    cases o with
    | reg | imm => cases h
    | mem =>
      obtain ⟨outside, rfl⟩ := find?_lacks_singleton h
      exact opAlu_error.2 (memRead_of_ge outside)
  | call a => exact opCall_error_of_find? h
  | callIf flag sense a =>
    by_cases taken : s.getFlag flag = sense
    · simp only [Action.dataAddresses, Action.loadAddresses, Action.cells, if_pos taken] at h
      simp only [Action.run, opCallIf, if_pos taken]
      exact opCall_error_of_find? h
    · simp only [Action.dataAddresses, Action.loadAddresses, Action.cells, if_neg taken] at h
      cases h
  | ret => exact opReturn_error_of_find? h
  | input p =>
    obtain ⟨outside, rfl⟩ := find?_lacks_singleton h
    exact opLoadFrom_error.2 ⟨outside, rfl⟩
  | output p =>
    obtain ⟨outside, rfl⟩ := find?_lacks_singleton h
    exact memWrite_error.2 ⟨outside, rfl⟩

/-! ## The instructions -/

/-- The state in which the operation of an instruction runs: `pc` is past the instruction (R14). -/
def State.past (i : Instr) (s : State) : State := s.setPc (s.pc + BitVec.ofNat 16 (encode i).length)

/-- No data address is formed from `pc`. -/
theorem loadAddresses_past (i : Instr) (s : State) (a : Action) : a.loadAddresses (s.past i) = a.loadAddresses s := by
  cases a with
  | alu op o => cases o <;> rfl
  | _ => rfl

theorem cellAddresses_past (i : Instr) (s : State) (a : Action) :
    (a.cells (s.past i)).map Prod.fst = (a.cells s).map Prod.fst := by
  cases a with
  | callIf flag sense a =>
    rw [map_fst_callIf, map_fst_callIf]
    cases flag <;> rfl
  | _ => rfl

theorem dataAddresses_past (i : Instr) (s : State) (a : Action) :
    a.dataAddresses (s.past i) = a.dataAddresses s := by
  rw [Action.dataAddresses, loadAddresses_past, cellAddresses_past, Action.dataAddresses]

/-- Settles O10: an instruction does what its action does, on the addresses of the action. -/
theorem instructionsCompleteWhenAddressesExist : Obligations.InstructionsCompleteWhenAddressesExist := by
  intro i s
  simp only [dataAddresses_eq, exec_eq_perform, ← dataAddresses_past i s i.action]
  refine ⟨fun inside => ⟨_, perform_next.2 ⟨_, i.action.run_ok inside, rfl⟩⟩, fun a missing => ?_⟩
  exact perform_fault.2 (i.action.run_error missing)

theorem exec_ne_refused (i : Instr) (s : State) (r : Refusal) : exec i s ≠ .refused r := by
  rw [exec_eq_perform]
  exact perform_ne_refused

/-- Either all of some addresses exist, or there is a first one that does not. -/
theorem all_exist_or_find? (s : State) (l : List Addr) :
    (∀ x ∈ l, x.toNat < s.cfg.memSize) ∨
      ∃ b ∈ l, s.cfg.memSize ≤ b.toNat ∧ l.find? s.lacks = some b := by
  cases found : l.find? s.lacks with
  | none =>
    exact .inl fun x hx => exists_of_lacks_eq_false (by simpa using List.find?_eq_none.1 found x hx)
  | some b =>
    have outside : s.lacks b = true := List.find?_some found
    exact .inr ⟨b, List.mem_of_find?_eq_some found, of_decide_eq_true outside, rfl⟩

/-- When an instruction completes, and in which state. -/
theorem exec_next {i : Instr} {s t : State} (h : exec i s = .next t) :
    (∀ x ∈ i.dataAddresses s, x.toNat < s.cfg.memSize) ∧
      t = (i.action.result (s.past i)).addCycles (i.cost.value s.cfg) := by
  rcases all_exist_or_find? s (i.dataAddresses s) with inside | ⟨b, _, _, missing⟩
  · refine ⟨inside, ?_⟩
    rw [exec_eq_perform] at h
    obtain ⟨u, hu, rfl⟩ := perform_next.1 h
    rw [dataAddresses_eq, ← dataAddresses_past i] at inside
    rw [Except.ok.inj ((i.action.run_ok inside).symm.trans hu)]
  · cases ((instructionsCompleteWhenAddressesExist i s).2 b missing).symm.trans h

/-- When an instruction faults: on a data address that does not exist (R242). -/
theorem exec_fault {i : Instr} {s : State} {f : Fault} (h : exec i s = .fault f) :
    ∃ b ∈ i.dataAddresses s, s.cfg.memSize ≤ b.toNat ∧ f = .memoryBounds b.toNat := by
  rcases all_exist_or_find? s (i.dataAddresses s) with inside | ⟨b, hb, outside, missing⟩
  · obtain ⟨t, ht⟩ := (instructionsCompleteWhenAddressesExist i s).1 inside
    cases ht.symm.trans h
  · cases ((instructionsCompleteWhenAddressesExist i s).2 b missing).symm.trans h
    exact ⟨b, hb, outside, rfl⟩

end Sys2Proof.Machine
end

section
/-! What every instruction leaves alone, and the invariant of an engine: facts about the result of an action. -/

namespace Sys2Proof.Machine

/-! ## Storing cells -/

theorem Memory.read_writeAll_of_ne (m : Memory) {cells : List (Addr × Byte)} {a : Nat}
    (h : ∀ b ∈ cells.map Prod.fst, b.toNat ≠ a) : Memory.read (Memory.writeAll m cells) a = Memory.read m a := by
  induction cells generalizing m with
  | nil => rfl
  | cons c cells ih =>
    obtain ⟨hc, hcells⟩ := List.forall_mem_cons.1 h
    exact (ih _ hcells).trans (Memory.read_write_of_ne m (Ne.symm hc) c.2)

theorem Memory.wf_writeAll {m : Memory} (hm : Memory.wf m) (cells : List (Addr × Byte)) :
    Memory.wf (Memory.writeAll m cells) := by
  induction cells generalizing m with
  | nil => exact hm
  | cons c cells ih => exact ih (Memory.wf_write hm c.1.toNat c.2)

/-- Storing lists no address but the stored ones and those listed before. -/
theorem Memory.mem_writeAll {m : Memory} {cells : List (Addr × Byte)} {c : Host.Cell}
    (h : c ∈ Memory.writeAll m cells) : (∃ b ∈ cells.map Prod.fst, c.1 = b.toNat) ∨ c ∈ m := by
  induction cells generalizing m with
  | nil => exact .inr h
  | cons d cells ih =>
    rcases ih h with ⟨b, hb, hc⟩ | hc
    · exact .inl ⟨b, List.mem_cons_of_mem _ hb, hc⟩
    · rcases Memory.mem_write hc with hc | hc
      · exact .inl ⟨d.1, List.mem_cons_self, hc⟩
      · exact .inr hc

/-! ## The result of an action, field by field -/

variable (s : State) (a : Action)

theorem result_mem : (a.result s).mem = Memory.writeAll s.mem (a.cells s) := by
  cases a with
  | alu op o => exact applyAlu_mem op _
  | jumpIf flag sense a => simp only [Action.result]; split <;> rfl
  | callIf flag sense a => simp only [Action.result, Action.cells]; split <;> rfl
  | _ => rfl

theorem result_sp : (a.result s).sp = a.spAfter s := by
  cases a with
  | alu op o => exact applyAlu_sp op _
  | jumpIf flag sense a => simp only [Action.result]; split <;> rfl
  | callIf flag sense a => simp only [Action.result, Action.spAfter]; split <;> rfl
  | _ => rfl

theorem result_cyc : (a.result s).cyc = s.cyc := by
  cases a with
  | alu op o => exact applyAlu_cyc op _
  | jumpIf flag sense a | callIf flag sense a => simp only [Action.result]; split <;> rfl
  | _ => rfl

theorem result_cfg : (a.result s).cfg = s.cfg := by
  cases a with
  | alu op o => exact applyAlu_cfg op _
  | jumpIf flag sense a | callIf flag sense a => simp only [Action.result]; split <;> rfl
  | _ => rfl

/-- Compare writes no register (R123). -/
theorem applyAlu_cp_getReg (v : Byte) (r : Reg) : (applyAlu .cp v s).getReg r = s.getReg r := by
  cases r <;> rfl

variable {s a}

theorem result_getReg {r : Reg} (h : a.destination ≠ some r) : (a.result s).getReg r = s.getReg r := by
  cases a with
  | move dst | load dst | loadImm dst | increment dst | decrement dst =>
    have other : r ≠ dst := fun eq => h (by rw [eq]; rfl)
    simp [Action.result, State.getReg_setReg_of_ne _ other]
  | rotate | input =>
    have other : r ≠ .a := fun eq => h (by rw [eq]; rfl)
    simp [Action.result, State.getReg_setReg_of_ne _ other]
  | alu op o =>
    by_cases compare : op = .cp
    · rw [compare]
      exact applyAlu_cp_getReg s _ r
    · have other : r ≠ .a := fun eq => h (by rw [eq]; exact if_neg compare)
      exact applyAlu_getReg op _ other
  | jumpIf | callIf => simp only [Action.result]; split <;> simp
  | nothing | store | storeImm | jump | call | ret | output => simp [Action.result]

theorem result_getFlag {f : FlagName} (h : f ∉ a.flagsWritten) : (a.result s).getFlag f = s.getFlag f := by
  cases a with
  | alu op o => cases f <;> simp [Action.flagsWritten] at h
  | increment r | decrement r =>
    obtain rfl : f = .carry := by cases f <;> simp [Action.flagsWritten] at h ⊢
    rfl
  | rotate g =>
    have other : f ≠ .carry := fun eq => h (by rw [eq]; exact List.mem_singleton_self _)
    cases f with
    | carry => exact absurd rfl other
    | zero | sign | parity => rfl
  | jumpIf | callIf => simp only [Action.result]; split <;> simp
  | nothing | move | load | loadImm | store | storeImm | jump | call | ret | input | output => simp [Action.result]

/-! ## The obligations -/

/-- Settles O54: by the result of the action, `result_getReg`. -/
theorem registerFrame : Obligations.RegisterFrame := by
  intro i s t h r other
  obtain ⟨_, rfl⟩ := exec_next h
  rw [destination_eq] at other
  rw [State.addCycles_getReg, result_getReg other, State.past, State.setPc_getReg]

/-- Settles O55: by the result of the action, `result_getFlag`. -/
theorem flagFrame : Obligations.FlagFrame := by
  intro i s t h f other
  obtain ⟨_, rfl⟩ := exec_next h
  rw [flagsWritten_eq] at other
  rw [State.addCycles_getFlag, result_getFlag other, State.past, State.setPc_getFlag]

/-- The memory after an instruction is the memory before it with the cells of its action stored. -/
theorem exec_mem {i : Instr} {s t : State} (h : exec i s = .next t) :
    t.mem = Memory.writeAll s.mem (i.action.cells (s.past i)) := by
  obtain ⟨_, rfl⟩ := exec_next h
  exact result_mem (s.past i) i.action

theorem storeAddresses_past (i : Instr) (s : State) :
    (i.action.cells (s.past i)).map Prod.fst = i.storeAddresses s := by
  rw [cellAddresses_past, storeAddresses_eq]

/-- Settles O56: memory changes by the cells of the action alone. -/
theorem memoryFrame : Obligations.MemoryFrame := by
  intro i s t h
  rw [exec_mem h, ← storeAddresses_past]
  refine ⟨fun a other => Memory.read_writeAll_of_ne s.mem other, fun none => ?_⟩
  rw [List.map_eq_nil_iff.1 none]
  rfl

theorem spAfter_past (i : Instr) (s : State) (a : Action) : a.spAfter (s.past i) = a.spAfter s := by
  cases a with
  | callIf flag sense a => cases flag <;> rfl
  | _ => rfl

/-- Settles O57: by the result of the action, `result_sp`. -/
theorem stackPointerFrame : Obligations.StackPointerFrame := by
  intro i s t h
  obtain ⟨_, rfl⟩ := exec_next h
  rw [State.addCycles_sp, result_sp, spAfter_past, spAfter_eq]

/-- An instruction adds the cost of the default table (R21, log 33). -/
theorem exec_cyc {i : Instr} {s t : State} (h : exec i s = .next t) : t.cyc = s.cyc + i.cost.value s.cfg := by
  obtain ⟨_, rfl⟩ := exec_next h
  rw [State.addCycles_cyc, result_cyc]
  rfl

/-- No instruction changes a parameter (R5, R20). -/
theorem exec_cfg {i : Instr} {s t : State} (h : exec i s = .next t) : t.cfg = s.cfg := by
  obtain ⟨_, rfl⟩ := exec_next h
  rw [State.addCycles_cfg, result_cfg]
  rfl

/-- An instruction keeps the invariant: it stores at addresses that exist, and by `Memory.write` alone. -/
theorem exec_wf {i : Instr} {s t : State} (wf : s.wf) (h : exec i s = .next t) : t.wf := by
  obtain ⟨params, canonical, bounded⟩ := wf
  obtain ⟨inside, _⟩ := exec_next h
  refine ⟨exec_cfg h ▸ params, exec_mem h ▸ Memory.wf_writeAll canonical _, fun c hc => ?_⟩
  rw [exec_cfg h]
  rw [exec_mem h] at hc
  rcases Memory.mem_writeAll hc with ⟨b, hb, hcb⟩ | hc
  · rw [storeAddresses_past] at hb
    exact hcb ▸ inside b (List.mem_append_right _ hb)
  · exact bounded c hc

/-- Settles O16: charging the cost changes the counter alone, which the invariant does not read. -/
theorem stepKeepsInvariant : Obligations.StepKeepsInvariant := by
  intro s t wf h
  obtain ⟨e, i, u, _, hu, rfl⟩ := step_next.1 h
  have kept : u.wf := exec_wf wf hu
  exact kept

/-- Settles O11: neither the fetch nor any meaning refuses. -/
theorem stepNeverRefused : Obligations.StepNeverRefused := by
  intro s r h
  unfold step at h
  split at h
  · next e i _ =>
    cases hx : exec i s with
    | next u => rw [hx] at h; cases h
    | fault f => rw [hx] at h; cases h
    | refused q => exact exec_ne_refused i s q hx
  · cases h

end Sys2Proof.Machine
end

section
/-! The rows of an ISD and the form each performs (R50, R57, R60), for the default ISD and for those that meet R64. -/

namespace Sys2Proof

/-! ## The form of an entry -/

theorem decodeOpcode_ne_relative (op : Byte) : decodeOpcode op ≠ some .relative :=
  fun h => isRow_of_decodeOpcode h

theorem form_of_relative {e : InstructionSpec} (h : e.mode = .relative) : e.form = some .relative := if_pos h

theorem form_of_ne_relative {e : InstructionSpec} (h : e.mode ≠ .relative) : e.form = decodeOpcode e.rule := if_neg h

/-- Every entry of an ISD performs a rule in its own mode: constraint (g) of R64, Relative being its own form (R62). -/
def Isd.formed (isd : Isd) : Prop :=
  ∀ op e, lookupByOpcode isd op = some e → ∃ form, e.form = some form ∧ formMode form = e.mode

theorem meets_of_lookup {p : Params} (wf : p.wf) {op : Byte} {e : InstructionSpec}
    (h : lookupByOpcode p.isd op = some e) : e.meets p op := by
  obtain ⟨_, _, _, _, meets⟩ := wf
  exact (Isd.meets_iff.1 meets).1 op e h

theorem formed_of_wf {p : Params} (wf : p.wf) : p.isd.formed := by
  intro op e h
  obtain ⟨_, _, _, _, _, _, _, _, form⟩ := meets_of_lookup wf h
  exact Option.map_eq_some_iff.1 form

/-- The form of an entry by its mode. -/
theorem form_of_mode {e : InstructionSpec} (h : ∃ form, e.form = some form ∧ formMode form = e.mode) :
    (e.mode = .implied → ∃ i, e.form = some (.implied i)) ∧
    (e.mode = .immediate → ∃ mk, e.form = some (.immediate mk)) ∧
    (e.mode = .absolute → ∃ mk, e.form = some (.absolute mk)) := by
  obtain ⟨form, hform, hmode⟩ := h
  rw [← hmode]
  cases form with
  | implied i => exact ⟨fun _ => ⟨i, hform⟩, nofun, nofun⟩
  | immediate mk => exact ⟨nofun, fun _ => ⟨mk, hform⟩, nofun⟩
  | absolute mk => exact ⟨nofun, nofun, fun _ => ⟨mk, hform⟩⟩
  | relative => exact ⟨nofun, nofun, nofun⟩

/-! ## The default table -/

/-- The entry of an opcode in the default table is read off its form. -/
theorem defaultEntry_eq {op : Byte} {e : InstructionSpec} (h : defaultEntry op = some e) :
    ∃ form i, e.form = some form ∧ decodeOpcode op = some form ∧ formInstr form = some i ∧ e.mode = formMode form ∧
      e.mnemonic = i.mnemonic ∧ e.cost = i.cost := by
  obtain ⟨_, _, hform, _, _⟩ := defaultEntry_some h
  unfold defaultEntry at h
  split at h
  · cases h
  · next form hop =>
    split at h
    · cases h
    · next i hi =>
      obtain rfl := Option.some.inj h
      exact ⟨form, i, hform.trans hop, hop, hi, rfl, rfl, rfl⟩

theorem default_formed : Isd.default.formed := by
  intro op e h
  obtain ⟨form, _, hform, _, _, hmode, _⟩ := defaultEntry_eq h
  exact ⟨form, hform, hmode.symm⟩

/-- An opcode that selects a form has an entry. -/
theorem exists_defaultEntry {op : Byte} {form : OpForm} (h : decodeOpcode op = some form) :
    ∃ e, defaultEntry op = some e := by
  cases form with
  | relative => exact absurd h (decodeOpcode_ne_relative op)
  | implied | immediate | absolute => exact ⟨_, by rw [defaultEntry, h]; rfl⟩

/-! ## The instructions of a form -/

/-- An instruction of a form, with some operand. -/
def OpForm.yields (i : Instr) : OpForm → Prop
  | .implied j => i = j
  | .immediate mk => ∃ v, i = mk v
  | .absolute mk => ∃ a, i = mk a
  | .relative => False

/-- In a row of the opcode map the operand changes neither the mnemonic nor the cost. -/
theorem mnemonic_cost_of_yields {op : Byte} {form : OpForm} {i j : Instr} (row : form.isRow op) (hi : form.yields i)
    (hj : formInstr form = some j) : j.mnemonic = i.mnemonic ∧ j.cost = i.cost := by
  cases form with
  | implied k =>
    obtain rfl : i = k := hi
    obtain rfl : i = j := Option.some.inj hj
    exact ⟨rfl, rfl⟩
  | immediate mk =>
    obtain ⟨v, rfl⟩ := hi
    obtain rfl : mk 0#8 = j := Option.some.inj hj
    obtain ⟨_, _, mnemonic, cost⟩ := row v
    exact ⟨mnemonic.symm, cost.symm⟩
  | absolute mk =>
    obtain ⟨a, rfl⟩ := hi
    obtain rfl : mk 0#16 = j := Option.some.inj hj
    obtain ⟨_, _, mnemonic, cost⟩ := row a
    exact ⟨mnemonic.symm, cost.symm⟩
  | relative => cases hi

theorem yields_of_decodeForm {op : Byte} {form : OpForm} {bytes rest : List Byte} {i : Instr}
    (h : decodeForm op form bytes = .ok (i, rest)) : form.yields i := by
  unfold decodeForm at h
  split at h <;> cases h
  case h_1 => rfl
  case h_2 => exact ⟨_, rfl⟩
  case h_4 => exact ⟨_, rfl⟩

/-! ## Decoding under an ISD -/

theorem decodeWith_of_entry {isd : Isd} {op : Byte} {e : InstructionSpec} {form : OpForm} {tail rest : List Byte}
    {i : Instr} (he : lookupByOpcode isd op = some e) (hform : e.form = some form)
    (h : decodeForm op form tail = .ok (i, rest)) : decodeWith isd (op :: tail) = .ok (e, i, rest) := by
  simp only [decodeWith, he, hform, h]

/-- What an ISD's decoder has read: the entry of the first byte, its form, and the operand of the instruction. -/
theorem decodeWith_ok {isd : Isd} {bytes rest : List Byte} {e : InstructionSpec} {i : Instr}
    (h : decodeWith isd bytes = .ok (e, i, rest)) :
    ∃ op tail form, bytes = op :: tail ∧ lookupByOpcode isd op = some e ∧ e.form = some form ∧
      decodeForm op form tail = .ok (i, rest) := by
  unfold decodeWith at h
  split at h
  · cases h
  · next op tail =>
    split at h
    · cases h
    · next e' he =>
      split at h
      · cases h
      · next form hform =>
        split at h
        · next j more hj =>
          obtain ⟨rfl, rfl, rfl⟩ : e' = e ∧ j = i ∧ more = rest := by simpa using h
          exact ⟨op, tail, form, rfl, he, hform, hj⟩
        · cases h

/-- The decoder of the default ISD gives, beside the instruction, an entry with its mnemonic and its cost. -/
theorem decodeWith_default {bytes rest : List Byte} {i : Instr} (h : decode bytes = .ok (i, rest)) :
    ∃ e, decodeWith Isd.default bytes = .ok (e, i, rest) ∧ e.mnemonic = i.mnemonic ∧ e.cost = i.cost := by
  unfold decode at h
  split at h
  · cases h
  · next op tail =>
    split at h
    · cases h
    · next form hop =>
      obtain ⟨e, he⟩ := exists_defaultEntry hop
      obtain ⟨form', j, hform, hop', hj, _, mnemonic, cost⟩ := defaultEntry_eq he
      obtain rfl : form = form' := Option.some.inj (hop.symm.trans hop')
      obtain ⟨hm, hc⟩ := mnemonic_cost_of_yields (isRow_of_decodeOpcode hop) (yields_of_decodeForm h) hj
      exact ⟨e, decodeWith_of_entry he hform h, mnemonic.trans hm, cost.trans hc⟩

end Sys2Proof
end

section
/-! The phases of a step (R60): what `fetch` answers for each entry, and what can be said of a whole step. -/

namespace Sys2Proof.Machine

variable {s t : State} {op : Byte} {e : InstructionSpec} {i : Instr} {f : Fault}

/-! ## Fetch, by the form of the entry -/

theorem fetch_of_memRead_error (h : memRead s s.pc = .error f) : fetch s = .error f := by
  simp only [fetch, h]

theorem fetch_of_no_entry (hop : memRead s s.pc = .ok op) (he : lookupByOpcode s.cfg.isd op = none) :
    fetch s = .error (.decodeError s.pc op) := by
  simp only [fetch, hop, he]

theorem fetch_of_relative (hop : memRead s s.pc = .ok op) (he : lookupByOpcode s.cfg.isd op = some e)
    (hform : e.form = some .relative) : fetch s = .error (.decodeError s.pc op) := by
  simp only [fetch, hop, he, hform]

theorem fetch_of_implied (hop : memRead s s.pc = .ok op) (he : lookupByOpcode s.cfg.isd op = some e)
    (hform : e.form = some (.implied i)) : fetch s = .ok (e, i) := by
  simp only [fetch, hop, he, hform]

theorem fetch_of_immediate {mk : Byte → Instr} {v : Byte} (hop : memRead s s.pc = .ok op)
    (he : lookupByOpcode s.cfg.isd op = some e) (hform : e.form = some (.immediate mk))
    (hv : memRead s (s.pc + 1#16) = .ok v) : fetch s = .ok (e, mk v) := by
  simp only [fetch, hop, he, hform, hv]

theorem fetch_of_absolute {mk : Addr → Instr} {lo hi : Byte} (hop : memRead s s.pc = .ok op)
    (he : lookupByOpcode s.cfg.isd op = some e) (hform : e.form = some (.absolute mk))
    (hlo : memRead s (s.pc + 1#16) = .ok lo) (hhi : memRead s (s.pc + 2#16) = .ok hi) :
    fetch s = .ok (e, mk (addrOfBytes lo hi)) := by
  simp only [fetch, hop, he, hform, hlo, hhi]

theorem fetch_error_of_first_operand {form : OpForm} (hop : memRead s s.pc = .ok op)
    (he : lookupByOpcode s.cfg.isd op = some e) (hform : e.form = some form)
    (takes : formMode form = .immediate ∨ formMode form = .absolute) (h : memRead s (s.pc + 1#16) = .error f) :
    fetch s = .error f := by
  cases form with
  | immediate mk | absolute mk => simp only [fetch, hop, he, hform, h]
  | implied | relative => simp [formMode] at takes

theorem fetch_error_of_second_operand {mk : Addr → Instr} {lo : Byte} (hop : memRead s s.pc = .ok op)
    (he : lookupByOpcode s.cfg.isd op = some e) (hform : e.form = some (.absolute mk))
    (hlo : memRead s (s.pc + 1#16) = .ok lo) (h : memRead s (s.pc + 2#16) = .error f) : fetch s = .error f := by
  simp only [fetch, hop, he, hform, hlo, h]

/-! ## What a fetch can answer -/

theorem fetch_ok (h : fetch s = .ok (e, i)) :
    ∃ op form, memRead s s.pc = .ok op ∧ lookupByOpcode s.cfg.isd op = some e ∧ e.form = some form ∧ form.yields i := by
  unfold fetch at h
  split at h
  · cases h
  · next op hop =>
    split at h
    · cases h
    · next e' he =>
      refine ⟨op, ?_⟩
      split at h
      · cases h
      · cases h
      · next j hform =>
        obtain ⟨rfl, rfl⟩ := Prod.mk.inj (Except.ok.inj h)
        exact ⟨_, hop, he, hform, rfl⟩
      · next mk hform =>
        split at h
        · cases h
        · next v _ =>
          obtain ⟨rfl, rfl⟩ := Prod.mk.inj (Except.ok.inj h)
          exact ⟨_, hop, he, hform, v, rfl⟩
      · next mk hform =>
        split at h
        · cases h
        · split at h
          · cases h
          · obtain ⟨rfl, rfl⟩ := Prod.mk.inj (Except.ok.inj h)
            exact ⟨_, hop, he, hform, _, rfl⟩

/-- A fetch fails in two ways: at an opcode that nothing is performed for, or at an address outside memory (R240). -/
theorem fetch_error (h : fetch s = .error f) :
    (∃ op, memRead s s.pc = .ok op ∧ f = .decodeError s.pc op ∧
      ∀ e, lookupByOpcode s.cfg.isd op = some e → e.form = none ∨ e.form = some .relative) ∨
    ∃ a : Addr, s.cfg.memSize ≤ a.toNat ∧ f = .memoryBounds a.toNat := by
  have bounds {a : Addr} {g : Fault} (hg : memRead s a = .error g) (eq : g = f) :
      ∃ a : Addr, s.cfg.memSize ≤ a.toNat ∧ f = .memoryBounds a.toNat := ⟨a, memRead_error.1 (eq ▸ hg)⟩
  unfold fetch at h
  split at h
  · next g hg => exact .inr (bounds hg (Except.error.inj h))
  · next op hop =>
    split at h
    · next he => exact .inl ⟨op, hop, (Except.error.inj h).symm, fun e h' => by rw [he] at h'; cases h'⟩
    · next e he =>
      have only {P : InstructionSpec → Prop} (hP : P e) : ∀ e', lookupByOpcode s.cfg.isd op = some e' → P e' :=
        fun e' h' => Option.some.inj (he.symm.trans h') ▸ hP
      split at h
      · next hform => exact .inl ⟨op, hop, (Except.error.inj h).symm, only (.inl hform)⟩
      · next hform => exact .inl ⟨op, hop, (Except.error.inj h).symm, only (.inr hform)⟩
      · cases h
      · split at h
        · next g hg => exact .inr (bounds hg (Except.error.inj h))
        · cases h
      · split at h
        · next g hg => exact .inr (bounds hg (Except.error.inj h))
        · split at h
          · next g hg => exact .inr (bounds hg (Except.error.inj h))
          · cases h

/-! ## Undefined opcodes and the order of faults -/

theorem step_ne_decodeError_of_fetch_ok {pc0 : Addr} (h : fetch s = .ok (e, i)) :
    step s ≠ .fault (.decodeError pc0 op) := by
  intro hs
  rcases step_fault.1 hs with hf | ⟨e', i', _, hx⟩
  · cases h.symm.trans hf
  · obtain ⟨b, _, _, hb⟩ := exec_fault hx
    cases hb

/-- With a readable opcode byte a step raises the decode error exactly where there is no entry, or a Relative one. -/
theorem step_decodeError_iff (formed : s.cfg.isd.formed) (hop : memRead s s.pc = .ok op) :
    step s = .fault (.decodeError s.pc op) ↔
      lookupByOpcode s.cfg.isd op = none ∨ ∃ e, lookupByOpcode s.cfg.isd op = some e ∧ e.mode = .relative := by
  constructor
  · intro h
    rcases step_fault.1 h with hf | ⟨e, i, hfetch, _⟩
    · rcases fetch_error hf with ⟨op', hop', _, entries⟩ | ⟨a, _, ha⟩
      · obtain rfl : op = op' := Except.ok.inj (hop.symm.trans hop')
        cases he : lookupByOpcode s.cfg.isd op with
        | none => exact .inl rfl
        | some e =>
          obtain ⟨form, hform, hmode⟩ := formed op e he
          rcases entries e he with none | relative
          · cases none.symm.trans hform
          · obtain rfl := Option.some.inj (relative.symm.trans hform)
            exact .inr ⟨e, rfl, hmode.symm⟩
      · cases ha
    · exact absurd h (step_ne_decodeError_of_fetch_ok hfetch)
  · rintro (none | ⟨e, he, relative⟩)
    · exact step_fault.2 (.inl (fetch_of_no_entry hop none))
    · exact step_fault.2 (.inl (fetch_of_relative hop he (form_of_relative relative)))

theorem defaultEntry_eq_none_iff : ∀ op : Byte, defaultEntry op = none ↔ op ∈ Claims.undefinedOpcodes := by
  have all : ∀ op : Byte, (defaultEntry op).isNone = decide (op ∈ Claims.undefinedOpcodes) := by decide +kernel
  intro op
  rw [← Option.isNone_iff_eq_none, all, decide_eq_true_iff]

/-- Settles O5: the list is evaluated over the default table, the step is `step_decodeError_iff`. -/
theorem undefinedOpcodesRaiseDecodeError : Obligations.UndefinedOpcodesRaiseDecodeError := by
  refine ⟨defaultEntry_eq_none_iff,
    fun s op hop => ⟨fun wf => step_decodeError_iff (formed_of_wf wf) hop, fun isd => ?_⟩⟩
  rw [step_decodeError_iff (isd ▸ default_formed) hop, isd, lookupByOpcode_default, defaultEntry_eq_none_iff]
  refine ⟨.inl, fun h => h.elim id ?_⟩
  rintro ⟨e, he, relative⟩
  obtain ⟨_, _, _, _, mode⟩ := defaultEntry_some he
  exact absurd relative mode

/-- Settles O9: each clause is the fetch with the first failing phase, the last one the meaning of what was fetched. -/
theorem stepFaultsInPriorityOrder : Obligations.StepFaultsInPriorityOrder := by
  intro s
  refine ⟨fun outside => ?_, fun op hop none => ?_, fun op e hop he => ⟨fun relative => ?_, ?_, ?_⟩,
    fun e i hfetch => ⟨fun a missing => ?_, fun inside => ?_⟩⟩
  · exact step_fault.2 (.inl (fetch_of_memRead_error (memRead_of_ge outside)))
  · exact step_fault.2 (.inl (fetch_of_no_entry hop none))
  · exact step_fault.2 (.inl (fetch_of_relative hop he (form_of_relative relative)))
  · intro wf mode size outside
    obtain ⟨_, size_eq, _⟩ := meets_of_lookup wf he
    obtain ⟨form, hform, hmode⟩ := formed_of_wf wf op e he
    have takes : formMode form = .immediate ∨ formMode form = .absolute := by
      rw [hmode]
      cases hm : e.mode <;> simp_all [Mode.size]
    exact step_fault.2 (.inl (fetch_error_of_first_operand hop he hform takes (memRead_of_ge outside)))
  · intro wf size inside outside
    obtain ⟨_, size_eq, _⟩ := meets_of_lookup wf he
    have mode : e.mode = .absolute := by cases hm : e.mode <;> simp_all [Mode.size]
    obtain ⟨_, _, absolute⟩ := form_of_mode (formed_of_wf wf op e he)
    obtain ⟨mk, hform⟩ := absolute mode
    exact step_fault.2 (.inl
      (fetch_error_of_second_operand hop he hform (memRead_of_lt inside) (memRead_of_ge outside)))
  · exact step_fault.2 (.inr ⟨e, i, hfetch, (instructionsCompleteWhenAddressesExist i s).2 a missing⟩)
  · obtain ⟨t, ht⟩ := (instructionsCompleteWhenAddressesExist i s).1 inside
    exact ⟨_, step_next.2 ⟨e, i, t, hfetch, ht, rfl⟩⟩

/-! ## Where no bounds fault is -/

/-- A bounds fault of a step names a 16-bit address outside memory. -/
theorem step_memoryBounds {n : Nat} (h : step s = .fault (.memoryBounds n)) :
    ∃ a : Addr, s.cfg.memSize ≤ a.toNat ∧ n = a.toNat := by
  rcases step_fault.1 h with hf | ⟨e, i, _, hx⟩
  · rcases fetch_error hf with ⟨op, _, heq, _⟩ | ⟨a, outside, heq⟩
    · cases heq
    · exact ⟨a, outside, Fault.memoryBounds.inj heq⟩
  · obtain ⟨a, _, outside, heq⟩ := exec_fault hx
    exact ⟨a, outside, Fault.memoryBounds.inj heq⟩

theorem step_ne_memoryBounds (full : s.cfg.memSize = 65536) (n : Nat) : step s ≠ .fault (.memoryBounds n) := by
  intro h
  obtain ⟨a, outside, _⟩ := step_memoryBounds h
  have := a.isLt
  omega

/-- An instruction whose data addresses lie in page 0 cannot fault when page 0 exists. -/
theorem exec_ne_fault_of_page0 (page0 : 256 ≤ s.cfg.memSize) (h : ∀ a ∈ i.dataAddresses s, ∃ b : Byte, a = slotAddr b) :
    exec i s ≠ .fault f := by
  intro hx
  obtain ⟨a, ha, outside, _⟩ := exec_fault hx
  obtain ⟨b, rfl⟩ := h a ha
  rw [slotAddr_toNat] at outside
  have := b.isLt
  omega

theorem callSlots_page0 (s : State) : ∀ a ∈ s.callSlots, ∃ b : Byte, a = slotAddr b := by
  simp [State.callSlots]

theorem returnSlots_page0 (s : State) : ∀ a ∈ s.returnSlots, ∃ b : Byte, a = slotAddr b := by
  simp [State.returnSlots]

theorem dataAddresses_callInstr (sense : Bool) (flag : FlagName) (target : Addr) (s : State) :
    (callInstr sense flag target).dataAddresses s = s.callSlotsIf flag sense := by
  cases sense <;> cases flag <;> rfl

/-- Settles O12: page 0 holds every stack slot, and every address is below 65536. -/
theorem noBoundsFaultWhereMemoryExists : Obligations.NoBoundsFaultWhereMemoryExists := by
  refine ⟨fun s n full => step_ne_memoryBounds full n, fun s n x flag sense target page0 => ⟨?_, ?_, ?_⟩⟩
  · exact exec_ne_fault_of_page0 page0 (callSlots_page0 s)
  · refine exec_ne_fault_of_page0 page0 fun a ha => returnSlots_page0 s a ?_
    rwa [Instr.dataAddresses, Instr.storeAddresses, List.append_nil] at ha
  · refine exec_ne_fault_of_page0 page0 fun a ha => callSlots_page0 s a ?_
    rw [dataAddresses_callInstr, State.callSlotsIf] at ha
    split at ha
    · exact ha
    · cases ha

/-! ## A step runs what its bytes decode to -/

/-- The bytes can be read one after another from `pc` on (R37). -/
def State.reads (s : State) (bytes : List Byte) : Prop :=
  ∀ (k : Nat) (h : k < bytes.length), memRead s (s.pc + BitVec.ofNat 16 k) = .ok bytes[k]

theorem fetch_of_decodeWith {bytes rest : List Byte} (reads : s.reads bytes)
    (h : decodeWith s.cfg.isd bytes = .ok (e, i, rest)) : fetch s = .ok (e, i) := by
  obtain ⟨op, tail, form, rfl, he, hform, hdecode⟩ := decodeWith_ok h
  have hop : memRead s (s.pc + 0#16) = .ok op := reads 0 (Nat.succ_pos _)
  rw [BitVec.add_zero] at hop
  unfold decodeForm at hdecode
  split at hdecode <;> cases hdecode
  case h_1 => exact fetch_of_implied hop he hform
  case h_2 => exact fetch_of_immediate hop he hform (reads 1 (by simp))
  case h_4 => exact fetch_of_absolute hop he hform (reads 1 (by simp)) (reads 2 (by simp))

/-- A step at bytes that decode: the instruction, with the cost its entry declares. -/
theorem step_of_decodeWith {bytes rest : List Byte} (reads : s.reads bytes)
    (h : decodeWith s.cfg.isd bytes = .ok (e, i, rest)) :
    (∀ t, exec i s = .next t → step s = .next { t with cyc := s.cyc + e.cost.value s.cfg }) ∧
    (∀ f, exec i s = .fault f → step s = .fault f) :=
  ⟨fun t ht => step_next.2 ⟨e, i, t, fetch_of_decodeWith reads h, ht, rfl⟩,
    fun _ hf => step_fault.2 (.inr ⟨e, i, fetch_of_decodeWith reads h, hf⟩)⟩

/-- Settles O8: under the default ISD the charged cost is the one that the instruction has added (`exec_cyc`). -/
theorem stepRunsDecodedInstruction : Obligations.StepRunsDecodedInstruction := by
  intro s bytes reads
  refine ⟨fun e i rest => step_of_decodeWith reads, fun i rest isd h => ?_⟩
  obtain ⟨e, hwith, _, cost⟩ := decodeWith_default h
  obtain ⟨next, fault⟩ := step_of_decodeWith reads (isd ▸ hwith)
  cases hx : exec i s with
  | next t =>
    rw [next t hx, cost, ← exec_cyc hx]
  | fault f => exact fault f hx
  | refused r => exact absurd hx (exec_ne_refused i s r)

/-- Settles O58: the declared cost is set by `charge`, the default one is added in the frame of the instruction. -/
theorem cyclesAddDeclaredCost : Obligations.CyclesAddDeclaredCost := by
  refine ⟨fun i s t => exec_cyc, fun op e he => ?_, fun s t e i hfetch h => ?_⟩
  · obtain ⟨form, j, hform, _, hj, _, _, cost⟩ := defaultEntry_eq he
    cases form with
    | relative => cases hj
    | implied | immediate | absolute =>
      obtain rfl := Option.some.inj hj
      exact ⟨_, _, decodeWith_of_entry he hform rfl, cost⟩
  · obtain ⟨e', i', u, hfetch', _, rfl⟩ := step_next.1 h
    obtain ⟨rfl, rfl⟩ := Prod.mk.inj (Except.ok.inj (hfetch.symm.trans hfetch'))
    rfl

end Sys2Proof.Machine
end

section
/-! The lookups of an ISD and the canonical entry of a mnemonic (R58, R64, R214). -/

namespace Sys2Proof

open Sys2Proof.Machine

/-! ## The lowest opcode of a name (R58) -/

theorem find?_allOpcodes {p : Byte → Bool} {op : Byte} :
    allOpcodes.find? p = some op ↔ p op = true ∧ ∀ o, p o = true → op.toNat ≤ o.toNat := by
  rw [allOpcodes, List.find?_map, Option.map_eq_some_iff]
  simp only [List.find?_range_eq_some, Function.comp_apply, List.mem_range, Bool.not_eq_true']
  constructor
  · rintro ⟨n, ⟨hn, bound, lowest⟩, rfl⟩
    refine ⟨hn, fun o ho => ?_⟩
    rw [BitVec.toNat_ofNat, Nat.mod_eq_of_lt bound]
    by_contra below
    have absent := lowest o.toNat (Nat.lt_of_not_le below)
    rw [BitVec.ofNat_toNat, BitVec.setWidth_eq, ho] at absent
    cases absent
  · rintro ⟨hop, lowest⟩
    have back : BitVec.ofNat 8 op.toNat = op := by simp
    refine ⟨op.toNat, ⟨by rwa [back], op.isLt, fun j hj => ?_⟩, back⟩
    by_contra found
    have := lowest (BitVec.ofNat 8 j) (by simpa using found)
    rw [BitVec.toNat_ofNat, Nat.mod_eq_of_lt (hj.trans op.isLt)] at this
    omega

/-- An opcode whose entry has a name. -/
theorem any_mnemonic_iff {isd : Isd} {name : String} {o : Byte} :
    (lookupByOpcode isd o).any (fun e => e.mnemonic == name) = true ↔
      ∃ e, lookupByOpcode isd o = some e ∧ e.mnemonic = name := by
  cases lookupByOpcode isd o <;> simp

/-- Lookup by mnemonic gives the entry of the lowest opcode with that name, in every ISD. -/
theorem lookupByMnemonic_iff {isd : Isd} {name : String} {e : InstructionSpec} :
    lookupByMnemonic isd name = some e ↔
      ∃ op, lookupByOpcode isd op = some e ∧ e.mnemonic = name ∧
        ∀ o e', lookupByOpcode isd o = some e' → e'.mnemonic = name → op.toNat ≤ o.toNat := by
  rw [lookupByMnemonic, isdEntries, List.find?_filterMap, Option.bind_eq_some_iff]
  refine exists_congr fun op => ?_
  simp only [find?_allOpcodes, any_mnemonic_iff]
  constructor
  · rintro ⟨⟨⟨e', he', hname⟩, lowest⟩, he⟩
    obtain rfl := Option.some.inj (he'.symm.trans he)
    exact ⟨he, hname, fun o e'' ho hn => lowest o ⟨e'', ho, hn⟩⟩
  · rintro ⟨he, hname, lowest⟩
    exact ⟨⟨⟨e, he, hname⟩, fun o ⟨e', ho, hn⟩ => lowest o e' ho hn⟩, he⟩

/-! ## The names of the default table -/

/-- The mnemonics with more than one opcode (R58). -/
def sharedMnemonics : List String := ["HLT", "RET", "JMP", "CAL", "INP", "OUT"]

/-- The opcodes of the shared mnemonics, evaluated over the table of R57. -/
theorem shared_opcodes : ∀ o : Byte, ∀ e ∈ lookupByOpcode Isd.default o,
    (e.mnemonic = "HLT" ↔ o ∈ [0x00#8, 0x01#8, 0xFF#8]) ∧
    (e.mnemonic = "RET" ↔ o ∈ [0x07#8, 0x0F#8, 0x17#8, 0x1F#8, 0x27#8, 0x2F#8, 0x37#8, 0x3F#8]) ∧
    (e.mnemonic = "JMP" ↔ o ∈ [0x44#8, 0x4C#8, 0x54#8, 0x5C#8, 0x64#8, 0x6C#8, 0x74#8, 0x7C#8]) ∧
    (e.mnemonic = "CAL" ↔ o ∈ [0x46#8, 0x4E#8, 0x56#8, 0x5E#8, 0x66#8, 0x6E#8, 0x76#8, 0x7E#8]) ∧
    (e.mnemonic = "INP" ↔ o ∈ [0x41#8, 0x43#8, 0x45#8, 0x47#8, 0x49#8, 0x4B#8, 0x4D#8, 0x4F#8]) ∧
    (e.mnemonic = "OUT" ↔ 0x51 ≤ o.toNat ∧ o.toNat ≤ 0x7F ∧ o.toNat % 2 = 1) := by
  decide +kernel

/-- Every entry with another name is the one its name is looked up to, evaluated over the table of R57. -/
theorem lookupByMnemonic_own_name : ∀ o : Byte, ∀ e ∈ lookupByOpcode Isd.default o,
    e.mnemonic ∈ sharedMnemonics ∨ lookupByMnemonic Isd.default e.mnemonic = some e := by
  decide +kernel

/-- Settles O4: the first clause holds of every ISD; the names are evaluated over the default table. -/
theorem mnemonicLookupIsLowestAlias : Obligations.MnemonicLookupIsLowestAlias := by
  refine ⟨fun name e => ?_, fun o e he => shared_opcodes o e he, fun o o' e e' he he' same => ?_,
    fun s x => rfl, fun s x y => rfl, fun s x y target => ⟨rfl, rfl⟩⟩
  · rw [lookupByMnemonic_iff]
    constructor
    · rintro ⟨op, he, hname, lowest⟩
      obtain ⟨rfl, _⟩ := defaultEntry_some he
      exact ⟨he, hname, lowest⟩
    · rintro ⟨he, hname, lowest⟩
      exact ⟨e.opcode, he, hname, lowest⟩
  · by_cases shared : e.mnemonic ∈ sharedMnemonics
    · exact .inr shared
    · have own := (lookupByMnemonic_own_name o e he).resolve_left shared
      have own' := (lookupByMnemonic_own_name o' e' he').resolve_left (same ▸ shared)
      rw [← same, own] at own'
      obtain rfl := Option.some.inj own'
      obtain ⟨ho, _⟩ := defaultEntry_some he
      obtain ⟨ho', _⟩ := defaultEntry_some he'
      exact .inl (ho.symm.trans ho')

/-! ## The constraints hold of the default table at every `CYC_COND` -/

theorem Cost.value_of_default {c : Cost} {n : Nat} (h : c.value Params.default = n) (other : n ≠ 11) (p : Params) :
    c.value p = n := by
  cases c with
  | fixed m => exact h
  | cycCond => exact absurd h.symm other

/-- Of a positive `CYC_COND` the constraints ask nothing more: no cost that R64 (d) names is 11, its default. -/
theorem meets_of_meets_default {p : Params} {op : Byte} {e : InstructionSpec} (positive : 1 ≤ p.cycCond)
    (h : e.meets Params.default op) : e.meets p op := by
  obtain ⟨opcode, size, cost, halts, costs, modes, absolute, immediate, form⟩ := h
  refine ⟨opcode, size, ?_, halts, fun d hd name => ?_, modes, absolute, immediate, form⟩
  · cases hc : e.cost with
    | fixed n => rwa [hc] at cost
    | cycCond => exact positive
  · have other : ∀ d ∈ documentCosts, d.2 ≠ 11 := by decide
    exact Cost.value_of_default (costs d hd name) (other d hd) p

theorem default_meets (p : Params) (positive : 1 ≤ p.cycCond) : Isd.default.meets p := by
  have evaluated : Isd.default.meets Params.default := by decide +kernel
  obtain ⟨entries, named⟩ := Isd.meets_iff.1 evaluated
  exact Isd.meets_iff.2 ⟨fun op e he => meets_of_meets_default positive (entries op e he), named⟩

/-- Settles O6: the table of R57 is finite and evaluated; every other table is one by `lookupByOpcode_ofFn`. -/
theorem defaultIsdMeetsConstraints : Obligations.DefaultIsdMeetsConstraints :=
  ⟨by decide +kernel, by decide +kernel, default_meets, by decide +kernel, fun f => ⟨Isd.ofFn f, lookupByOpcode_ofFn f⟩⟩

/-! ## The canonical encoding (R61, R214) -/

theorem fits_iff {m : Mode} {v : AsmOperand} :
    Claims.fits m v ↔
      (m = .implied ∧ v = .none) ∨ (m = .immediate ∧ ∃ b, v = .imm b) ∨ (m = .absolute ∧ ∃ a, v = .abs a) := by
  cases m <;> cases v <;> simp [Claims.fits]

/-- The emitted bytes of an entry decode to it and to its rule with the operand, whatever follows. -/
theorem decodeWith_emit {isd : Isd} {e : InstructionSpec} {v : AsmOperand}
    (formed : ∃ form, e.form = some form ∧ formMode form = e.mode) (he : lookupByOpcode isd e.opcode = some e)
    (fits : Claims.fits e.mode v) :
    ∃ i, Claims.performs e v i ∧ ∀ rest, decodeWith isd (emit e v ++ rest) = .ok (e, i, rest) := by
  obtain ⟨implied, immediate, absolute⟩ := form_of_mode formed
  rcases fits_iff.1 fits with ⟨mode, rfl⟩ | ⟨mode, b, rfl⟩ | ⟨mode, a, rfl⟩
  · obtain ⟨i, hform⟩ := implied mode
    refine ⟨i, ?_, fun rest => decodeWith_of_entry he hform rfl⟩
    exact (form_of_ne_relative (by simp [mode])).symm.trans hform
  · obtain ⟨mk, hform⟩ := immediate mode
    refine ⟨mk b, ⟨mk, ?_, rfl⟩, fun rest => decodeWith_of_entry he hform rfl⟩
    exact (form_of_ne_relative (by simp [mode])).symm.trans hform
  · obtain ⟨mk, hform⟩ := absolute mode
    refine ⟨mk a, ⟨mk, ?_, rfl⟩, fun rest => decodeWith_of_entry he hform (by simp [decodeForm])⟩
    exact (form_of_ne_relative (by simp [mode])).symm.trans hform

/-- Under the default ISD the emitted bytes are the encoding of the instruction, and the name is its mnemonic. -/
theorem encode_eq_emit {e : InstructionSpec} {v : AsmOperand} {i : Instr} (he : defaultEntry e.opcode = some e)
    (h : Claims.performs e v i) : encode i = emit e v ∧ i.mnemonic = e.mnemonic := by
  obtain ⟨_, rule, _⟩ := defaultEntry_some he
  obtain ⟨form, j, _, hop, hj, _, mnemonic, _⟩ := defaultEntry_eq he
  have row := isRow_of_decodeOpcode hop
  have yields_mnemonic (y : form.yields i) : i.mnemonic = e.mnemonic :=
    (mnemonic_cost_of_yields row y hj).1.symm.trans mnemonic.symm
  cases v with
  | none =>
    obtain rfl : form = .implied i := Option.some.inj (hop.symm.trans (rule ▸ h))
    exact ⟨row.2, yields_mnemonic rfl⟩
  | imm b =>
    obtain ⟨mk, hmk, rfl⟩ := h
    obtain rfl : form = .immediate mk := Option.some.inj (hop.symm.trans (rule ▸ hmk))
    obtain ⟨_, bytes, _⟩ := row b
    exact ⟨bytes, yields_mnemonic ⟨b, rfl⟩⟩
  | abs a =>
    obtain ⟨mk, hmk, rfl⟩ := h
    obtain rfl : form = .absolute mk := Option.some.inj (hop.symm.trans (rule ▸ hmk))
    obtain ⟨_, bytes, _⟩ := row a
    exact ⟨bytes, yields_mnemonic ⟨a, rfl⟩⟩

/-- The canonical entry of a mnemonic has that name, and stands at its own opcode. -/
theorem canonical_entry {p : Params} (wf : p.wf) {name : String} {e : InstructionSpec}
    (h : lookupByMnemonic p.isd name = some e) : lookupByOpcode p.isd e.opcode = some e ∧ e.mnemonic = name := by
  obtain ⟨op, he, hname, _⟩ := lookupByMnemonic_iff.1 h
  obtain ⟨opcode, _⟩ := meets_of_lookup wf he
  exact ⟨opcode ▸ he, hname⟩

/-- Settles O3: `decodeWith_emit` for the canonical entry, with nothing after it. -/
theorem canonicalEncodingDecodes : Obligations.CanonicalEncodingDecodes := by
  intro p name e v wf hname fits
  obtain ⟨he, mnemonic⟩ := canonical_entry wf hname
  obtain ⟨i, performs, decodes⟩ := decodeWith_emit (formed_of_wf wf _ e he) he fits
  refine ⟨he, mnemonic, i, by simpa using decodes [], performs, fun isd => ?_⟩
  rw [isd] at he
  obtain ⟨bytes, same⟩ := encode_eq_emit he performs
  exact ⟨bytes, same.trans mnemonic⟩

end Sys2Proof
end

section
/-! Halting, runs, creation, load and the memory list (20_memory.md, 45_halt_io.md, 70_reset_and_hazards.md). -/

namespace Sys2Proof

/-! ## The entries named HLT (R60, R185) -/

theorem halt_of_mnemonic {i : Instr} (h : i.mnemonic = "HLT") : (∃ x, i = .hlt x) ∨ i = .hltFF := by
  cases i with
  | hlt x => exact .inl ⟨x, rfl⟩
  | hltFF => exact .inr rfl
  | _ => simp [Instr.mnemonic] at h

/-- By R64 (c) to (e) an entry named `HLT` is Implied and performs a halt. -/
theorem halt_form_of_meets {p : Params} {op : Byte} {e : InstructionSpec} (m : e.meets p op)
    (h : e.mnemonic = "HLT") : ∃ i, e.form = some (.implied i) ∧ i.mnemonic = "HLT" := by
  obtain ⟨_, _, _, _, _, modes, _, _, form⟩ := m
  obtain ⟨mode, rule⟩ := modes ("HLT", .implied) (by decide) h
  obtain ⟨implied, _⟩ := form_of_mode (Option.map_eq_some_iff.1 form)
  obtain ⟨i, hform⟩ := implied mode
  simp only [InstructionSpec.ruleMnemonic, hform] at rule
  exact ⟨i, hform, Option.some.inj rule⟩

/-- In an engine every entry named `HLT` halts at a cost of 4. -/
def Params.haltRows (p : Params) : Prop :=
  ∀ op e, lookupByOpcode p.isd op = some e → e.mnemonic = "HLT" →
    e.cost.value p = 4 ∧ ∃ i, e.form = some (.implied i) ∧ i.mnemonic = "HLT"

theorem haltRows_of_wf {p : Params} (wf : p.wf) : p.haltRows := by
  intro op e he h
  have m := meets_of_lookup wf he
  obtain ⟨_, _, _, _, costs, _⟩ := id m
  exact ⟨costs ("HLT", 4) (by decide) h, halt_form_of_meets m h⟩

/-- Under the default ISD this holds whatever the other parameters are: the cost of `HLT` is a number. -/
theorem haltRows_of_default {p : Params} (isd : p.isd = Isd.default) : p.haltRows := by
  intro op e he h
  rw [isd] at he
  have m := (Isd.meets_iff.1 (default_meets Params.default (by decide))).1 op e he
  obtain ⟨_, _, _, _, costs, _⟩ := id m
  exact ⟨Cost.value_of_default (costs ("HLT", 4) (by decide) h) (by decide) p, halt_form_of_meets m h⟩

end Sys2Proof

namespace Sys2Proof.Machine

variable {s t : State}

/-- The state after a halt (R185). -/
def State.halted (s : State) : State := { s with pc := s.pc + 1#16, cyc := s.cyc + 4 }

theorem exec_of_mnemonic_hlt {i : Instr} (h : i.mnemonic = "HLT") (s : State) : exec i s = .next s.halted := by
  rcases halt_of_mnemonic h with ⟨x, rfl⟩ | rfl <;> rfl

/-! ## The signal of a step (R245) -/

theorem haltsNext_iff : haltsNext s = true ↔ ∃ e i, fetch s = .ok (e, i) ∧ e.mnemonic = "HLT" := by
  unfold haltsNext
  split
  · next e i h => simp [h]
  · next f h => simp [h]

theorem hostStep_halted : hostStep s = (t, .halted) ↔ step s = .next t ∧ haltsNext s = true := by
  unfold hostStep
  cases step s with
  | next u => cases haltsNext s <;> simp
  | fault f => simp
  | refused r => simp

theorem hostStep_running : hostStep s = (t, .running) ↔ step s = .next t ∧ haltsNext s = false := by
  unfold hostStep
  cases step s with
  | next u => cases haltsNext s <;> simp
  | fault f => simp
  | refused r => simp

theorem hostStep_fault {f : Fault} : hostStep s = (t, .fault f) ↔ t = s ∧ step s = .fault f := by
  unfold hostStep
  cases step s with
  | next u => cases haltsNext s <;> simp
  | fault g => simp [eq_comm]
  | refused r => simp

theorem hostStep_halted_iff (rows : s.cfg.haltRows) :
    hostStep s = (t, .halted) ↔
      (∃ op e, memRead s s.pc = .ok op ∧ lookupByOpcode s.cfg.isd op = some e ∧ e.mnemonic = "HLT") ∧ t = s.halted := by
  rw [hostStep_halted, haltsNext_iff]
  constructor
  · rintro ⟨hstep, e, i, hfetch, name⟩
    obtain ⟨op, form, hop, he, hform, yields⟩ := fetch_ok hfetch
    obtain ⟨cost, j, hj, halts⟩ := rows op e he name
    obtain rfl := Option.some.inj (hform.symm.trans hj)
    obtain rfl : i = j := yields
    obtain ⟨e', i', u, hfetch', hu, rfl⟩ := step_next.1 hstep
    obtain ⟨rfl, rfl⟩ := Prod.mk.inj (Except.ok.inj (hfetch.symm.trans hfetch'))
    obtain rfl : s.halted = u := Host.Outcome.next.inj ((exec_of_mnemonic_hlt halts s).symm.trans hu)
    exact ⟨⟨op, e, hop, he, name⟩, by rw [cost]; rfl⟩
  · rintro ⟨⟨op, e, hop, he, name⟩, rfl⟩
    obtain ⟨cost, i, hform, halts⟩ := rows op e he name
    have hfetch := fetch_of_implied hop he hform
    refine ⟨step_next.2 ⟨e, i, _, hfetch, exec_of_mnemonic_hlt halts s, by rw [cost]; rfl⟩, e, i, hfetch, name⟩

/-- Settles O19: both clauses are `hostStep_halted_iff`, under R64 and for the default table. -/
theorem haltedExactlyAtHaltOpcodes : Obligations.HaltedExactlyAtHaltOpcodes := by
  intro s t
  refine ⟨fun wf => hostStep_halted_iff (haltRows_of_wf wf), fun isd => ?_⟩
  rw [hostStep_halted_iff (haltRows_of_default isd), isd]
  refine and_congr ⟨?_, ?_⟩ Iff.rfl
  · rintro ⟨op, e, hop, he, name⟩
    obtain ⟨hlt, _⟩ := shared_opcodes op e he
    exact ⟨op, hlt.1 name, hop⟩
  · rintro ⟨op, listed, hop⟩
    have entry : ∀ op ∈ [0x00#8, 0x01#8, 0xFF#8], (lookupByOpcode Isd.default op).isSome := by decide
    obtain ⟨e, he⟩ := Option.isSome_iff_exists.1 (entry op listed)
    obtain ⟨hlt, _⟩ := shared_opcodes op e he
    exact ⟨op, e, hop, he, hlt.2 listed⟩

/-- Settles O18. -/
theorem faultedStepChangesNothing : Obligations.FaultedStepChangesNothing := by
  intro s t f h
  obtain ⟨rfl, _⟩ := hostStep_fault.1 h
  exact ⟨rfl, h⟩

/-! ## Runs (R273, R274) -/

theorem step_cfg (h : step s = .next t) : t.cfg = s.cfg := by
  obtain ⟨e, i, u, _, hu, rfl⟩ := step_next.1 h
  have kept : u.cfg = s.cfg := exec_cfg hu
  exact kept

theorem run_succ_of_running {u : State} (h : hostStep s = (u, .running)) (k : Nat) : run (k + 1) s = run k u := by
  simp only [run, h]

/-- A run that ends with another signal than `running` ends in the step that gave it, after steps that all reported
`running`; the parameters are those of the start. -/
theorem run_ends {fuel : Nat} {s t : State} {g : Signal} (h : run fuel s = (t, g)) (ended : g ≠ .running) :
    ∃ k u, k < fuel ∧ run k s = (u, .running) ∧ hostStep u = (t, g) ∧ u.cfg = s.cfg := by
  induction fuel generalizing s with
  | zero =>
    obtain ⟨_, rfl⟩ := Prod.mk.inj h
    exact absurd rfl ended
  | succ fuel ih =>
    unfold run at h
    split at h
    · next u hu =>
      obtain ⟨k, v, hk, hrun, hv, cfg⟩ := ih h
      exact ⟨k + 1, v, Nat.succ_lt_succ hk, (run_succ_of_running hu k).trans hrun, hv,
        cfg.trans (step_cfg (hostStep_running.1 hu).1)⟩
    · next hs => exact ⟨0, s, Nat.succ_pos _, rfl, hs.trans h, rfl⟩

/-- Settles O20: the last step of the run gave the signal. -/
theorem runHaltsOnlyAfterHalt : Obligations.RunHaltsOnlyAfterHalt := by
  intro fuel s t wf h
  obtain ⟨k, u, hk, hrun, hu, cfg⟩ := run_ends h nofun
  obtain ⟨_, state⟩ := (hostStep_halted_iff (cfg ▸ haltRows_of_wf wf)).1 hu
  exact ⟨k, u, hk, hrun, (hostStep_halted.1 hu).2, state⟩

/-- Settles O21: the last step of the run gave the fault, with the state before it. -/
theorem runFaultLeavesStateBeforeStep : Obligations.RunFaultLeavesStateBeforeStep := by
  intro fuel s t f h
  obtain ⟨k, u, hk, hrun, hu, _⟩ := run_ends h nofun
  obtain ⟨rfl, hstep⟩ := hostStep_fault.1 hu
  exact ⟨k, hk, hrun, hstep⟩

/-- Settles O13: the step that ended the run would raise the fault in an engine with the whole address space. -/
theorem fullMemoryRunsAreBoundsSafe : Obligations.FullMemoryRunsAreBoundsSafe := by
  intro s full fuel a h
  have ends : run fuel s = ((run fuel s).1, .fault (.memoryBounds a)) := by rw [← h]
  obtain ⟨k, u, _, _, hu, cfg⟩ := run_ends ends (by simp)
  obtain ⟨_, hstep⟩ := hostStep_fault.1 hu
  exact step_ne_memoryBounds (cfg ▸ full) a hstep

/-! ## Creation (R26, R270) -/

/-- Settles O14. -/
theorem creationValues : Obligations.CreationValues := by
  intro p
  refine ⟨fun r => ?_, rfl, rfl, fun f => ?_, fun a => rfl, rfl, rfl⟩
  · cases r <;> rfl
  · cases f <;> rfl

/-- A fresh engine lists no byte, so its invariant is that of its parameters. -/
theorem create_wf {p : Params} (h : p.wf) : (State.create p).wf :=
  ⟨h, ⟨.nil, nofun⟩, nofun⟩

/-- Settles O15. -/
theorem creationMeetsInvariant : Obligations.CreationMeetsInvariant := by
  have default_wf : Params.default.wf := ⟨by decide, by decide, by decide, by decide, default_meets _ (by decide)⟩
  refine ⟨create_wf default_wf, fun p => ⟨fun wf => ⟨_, if_pos wf, rfl, create_wf wf⟩, fun wf => if_neg wf⟩⟩

/-! ## The memory list (log 10) -/

theorem Memory.read_of_lt {m : Memory} {a : Nat} (h : ∀ c ∈ m, a < c.1) : Memory.read m a = Memory.unlisted := by
  induction m with
  | nil => rfl
  | cons c m ih =>
    obtain ⟨hc, hm⟩ := List.forall_mem_cons.1 h
    rw [Memory.read_cons, if_neg (Nat.ne_of_lt hc), ih hm]

theorem Memory.wf_cons {c : Host.Cell} {m : Memory} (h : Memory.wf (c :: m)) :
    (∀ d ∈ m, c.1 < d.1) ∧ c.2 ≠ Memory.unlisted ∧ Memory.wf m := by
  obtain ⟨rising, listed⟩ := h
  obtain ⟨above, rising⟩ := List.pairwise_cons.1 rising
  obtain ⟨hc, listed⟩ := List.forall_mem_cons.1 listed
  exact ⟨above, hc, rising, listed⟩

/-- The lowest cell of a canonical list is not below the lowest cell of another that reads alike. -/
theorem Memory.head_not_lt {c d : Host.Cell} {m n : Memory} (hc : Memory.wf (c :: m)) (hd : Memory.wf (d :: n))
    (alike : ∀ a, Memory.read (c :: m) a = Memory.read (d :: n) a) : ¬c.1 < d.1 := by
  intro below
  obtain ⟨_, listed, _⟩ := Memory.wf_cons hc
  obtain ⟨above, _, _⟩ := Memory.wf_cons hd
  have unlisted : Memory.read (d :: n) c.1 = Memory.unlisted :=
    Memory.read_of_lt (List.forall_mem_cons.2 ⟨below, fun x hx => below.trans (above x hx)⟩)
  rw [← alike, Memory.read_cons, if_pos rfl] at unlisted
  exact listed unlisted

/-- A canonical list with a cell does not read as the empty one. -/
theorem Memory.cons_reads {c : Host.Cell} {m : Memory} (h : Memory.wf (c :: m)) :
    Memory.read (c :: m) c.1 ≠ Memory.read [] c.1 := by
  obtain ⟨_, listed, _⟩ := Memory.wf_cons h
  rwa [Memory.read_cons, if_pos rfl]

/-- Settles O23: the lowest cells agree, and without them both lists still read alike. -/
theorem canonicalMemoriesAreEqual : Obligations.CanonicalMemoriesAreEqual := by
  intro m1
  induction m1 with
  | nil =>
    intro m2 _ wf2 alike
    cases m2 with
    | nil => rfl
    | cons d n => exact absurd (alike d.1).symm (Memory.cons_reads wf2)
  | cons c m ih =>
    intro m2 wf1 wf2 alike
    cases m2 with
    | nil => exact absurd (alike c.1) (Memory.cons_reads wf1)
    | cons d n =>
      have address : c.1 = d.1 := Nat.le_antisymm
        (Nat.le_of_not_lt (Memory.head_not_lt wf2 wf1 fun a => (alike a).symm))
        (Nat.le_of_not_lt (Memory.head_not_lt wf1 wf2 alike))
      have value : c.2 = d.2 := by simpa [Memory.read_cons, address] using alike c.1
      obtain ⟨above1, _, wfm⟩ := Memory.wf_cons wf1
      obtain ⟨above2, _, wfn⟩ := Memory.wf_cons wf2
      rw [Prod.ext address value, ih n wfm wfn fun a => ?_]
      by_cases ha : a = c.1
      · rw [Memory.read_of_lt (ha ▸ above1), Memory.read_of_lt ((ha.trans address) ▸ above2)]
      · have tails := alike a
        rwa [Memory.read_cons, if_neg ha, Memory.read_cons, if_neg (address ▸ ha)] at tails

/-- Settles O22. -/
theorem readAfterWrite : Obligations.ReadAfterWrite := by
  intro s a v
  refine ⟨fun inside => ⟨_, memWrite_of_lt inside, ?_, fun b other => ?_, rfl⟩,
    fun outside => ⟨memRead_of_ge outside, memWrite_of_ge outside⟩⟩
  · exact memRead_ok.2 ⟨inside, (Memory.read_write_self _ _ _).symm⟩
  · have ne : b.toNat ≠ a.toNat := fun h => other (BitVec.eq_of_toNat_eq h)
    simp only [memRead, State.setMem_cfg, State.setMem_mem, Memory.read_write_of_ne _ ne]

/-! ## Load (R272) -/

theorem read_writeImage_of_outside (m : Memory) (image : List Byte) {origin a : Nat}
    (h : a < origin ∨ origin + image.length ≤ a) : Memory.read (writeImage m origin image) a = Memory.read m a := by
  induction image generalizing m origin with
  | nil => rfl
  | cons b image ih =>
    rw [List.length_cons] at h
    rw [writeImage, ih _ (by omega), Memory.read_write_of_ne _ (by omega)]

theorem read_writeImage (m : Memory) (image : List Byte) (origin : Nat) {k : Nat} (h : k < image.length) :
    Memory.read (writeImage m origin image) (origin + k) = image[k] := by
  induction image generalizing m origin k with
  | nil => cases h
  | cons b image ih =>
    rw [writeImage]
    cases k with
    | zero =>
      exact (read_writeImage_of_outside _ _ (.inl (Nat.lt_succ_self origin))).trans (Memory.read_write_self m origin b)
    | succ k =>
      rw [← Nat.add_assoc, Nat.add_right_comm, ih _ _ (Nat.lt_of_succ_lt_succ h)]
      rfl

/-- Settles O17. -/
theorem loadPlacesImage : Obligations.LoadPlacesImage := by
  intro image origin s
  refine ⟨fun listed beyond => if_pos ⟨listed, beyond⟩,
    fun fits => ⟨_, if_neg (by omega), rfl, ?_, ?_, rfl, rfl, rfl, rfl, rfl⟩⟩
  · exact fun k h => read_writeImage s.mem image origin.toNat h
  · exact fun a h => read_writeImage_of_outside s.mem image h

/-! ## A store at the next address is fetched (R44) -/

/-- What a store that completes leaves behind (R103). -/
theorem exec_storeInstr_next {r : Reg} (h : exec (storeInstr r) s = .next t) :
    s.hl.toNat < s.cfg.memSize ∧
      t = { s with mem := Memory.write s.mem s.hl.toNat (s.getReg r), pc := s.pc + 1#16, cyc := s.cyc + 7 } := by
  obtain ⟨_, next, fault⟩ := storeWritesMemoryAtHL r s
  rcases Nat.lt_or_ge s.hl.toNat s.cfg.memSize with inside | outside
  · exact ⟨inside, Host.Outcome.next.inj (h.symm.trans (next inside))⟩
  · cases h.symm.trans (fault outside)

/-- The byte stored at the address fetched next is the one that the next step reads as its opcode. -/
theorem memRead_pc_of_store {r : Reg} (h : exec (storeInstr r) s = .next t) (next : s.hl = s.pc + 1#16) :
    memRead t t.pc = .ok (s.getReg r) := by
  obtain ⟨inside, rfl⟩ := exec_storeInstr_next h
  rw [next] at inside ⊢
  exact memRead_ok.2 ⟨inside, (Memory.read_write_self _ _ _).symm⟩

/-- Settles O24: the stored byte is the one at the new `pc`, so the next step is the one of `step_of_decodeWith`. -/
theorem storeIsSeenByNextFetch : Obligations.StoreIsSeenByNextFetch := by
  intro r s t h next
  have stored := memRead_pc_of_store h next
  refine ⟨stored, fun operands rest e i reads decodes => step_of_decodeWith (fun k hk => ?_) decodes, fun none => ?_⟩
  · cases k with
    | zero => exact (congrArg (memRead t) (BitVec.add_zero t.pc)).trans stored
    | succ k => exact reads k (Nat.lt_of_succ_lt_succ hk)
  · rw [← exec_cfg h] at none
    exact step_fault.2 (.inl (fetch_of_no_entry stored none))

end Sys2Proof.Machine
end

section
/-! The assembler (49_assembler.md): the operand of a line has the shape of its entry's mode, so each line is the
canonical instruction of its mnemonic; and the size check of the first pass bounds the image. -/

namespace Sys2Proof.Machine

open Sys2Proof.Claims

variable {t : Labels} {v : AsmOperand}

/-! ## Operands (R210 to R217) -/

theorem absoluteOperand_ok {tok : List Char} (h : absoluteOperand t tok = .ok v) : ∃ a, v = .abs a := by
  unfold absoluteOperand at h
  split at h
  · dsimp only at h
    split at h
    · cases h
    · split at h
      · exact ⟨_, (Except.ok.inj h).symm⟩
      · cases h
  · split at h
    · exact ⟨_, (Except.ok.inj h).symm⟩
    · cases h

theorem immediateOperand_ok {tok : List Char} (h : immediateOperand tok = .ok v) : ∃ b, v = .imm b := by
  unfold immediateOperand at h
  split at h
  · split at h
    · split at h
      · cases h
      · exact ⟨_, (Except.ok.inj h).symm⟩
    · cases h
  · cases h

theorem parseOperand_jumpCall {m : String} {ops : List (List Char)} (shape : isJumpCall m = true)
    (h : parseOperand t m ops = .ok v) : ∃ a, v = .abs a := by
  unfold parseOperand at h
  rw [if_pos shape] at h
  split at h
  · exact absoluteOperand_ok h
  · cases h

theorem parseOperand_immediate {m : String} {ops : List (List Char)} (shape : isJumpCall m = false)
    (ends : isImmediate m = true) (h : parseOperand t m ops = .ok v) : ∃ b, v = .imm b := by
  unfold parseOperand at h
  rw [if_neg (by simp [shape]), if_pos ends] at h
  split at h
  · exact immediateOperand_ok h
  · cases h

theorem parseOperand_implied {m : String} {ops : List (List Char)} (shape : isJumpCall m = false)
    (ends : isImmediate m = false) (h : parseOperand t m ops = .ok v) : v = .none := by
  unfold parseOperand at h
  rw [if_neg (by simp [shape]), if_neg (by simp [ends])] at h
  split at h
  · exact (Except.ok.inj h).symm
  · cases h

/-- The operand chosen by mnemonic shape is one of the mode of the entry: R64 (f), read with no Relative entry. -/
theorem fits_of_parseOperand {p : Params} {op : Byte} {e : InstructionSpec} {ops : List (List Char)} (m : e.meets p op)
    (mode : e.mode ≠ .relative) (h : parseOperand t e.mnemonic ops = .ok v) : fits e.mode v := by
  obtain ⟨_, _, _, _, _, _, absolute, immediate, _⟩ := m
  cases hm : e.mode with
  | absolute =>
    obtain ⟨a, rfl⟩ := parseOperand_jumpCall (absolute.1 hm) h
    trivial
  | immediate =>
    obtain ⟨shape, ends⟩ := immediate.1 hm
    obtain ⟨b, rfl⟩ := parseOperand_immediate shape ends h
    trivial
  | implied =>
    have shape : isJumpCall e.mnemonic = false := by simpa [hm] using absolute
    have ends : isImmediate e.mnemonic = false := by simpa [hm, shape] using immediate
    obtain rfl := parseOperand_implied shape ends h
    trivial
  | relative => exact absurd hm mode

theorem emit_length {e : InstructionSpec} (size : e.size = e.mode.size) (h : fits e.mode v) :
    (emit e v).length = e.size := by
  rw [size]
  rcases fits_iff.1 h with ⟨mode, rfl⟩ | ⟨mode, b, rfl⟩ | ⟨mode, a, rfl⟩ <;> rw [mode] <;> rfl

/-! ## The second pass, line by line -/

/-- The instruction of a line, if it has one (R203). -/
def Line.instruction : Line → Option (String × List (List Char))
  | .instr m ops => some (m, ops)
  | .empty | .label _ | .badLabel => none

theorem instructionLines_eq (source : String) :
    instructionLines source = (sourceLines source).filterMap Line.instruction := by
  refine congrArg (fun f => (sourceLines source).filterMap f) (funext fun l => ?_)
  cases l <;> rfl

theorem encodeLine_of_no_instruction {isd : Isd} {l : Line} (h : l.instruction = none) :
    encodeLine isd t l = .ok [] := by
  cases l with
  | instr => cases h
  | empty | label | badLabel => rfl

theorem encodeLine_instr {isd : Isd} {m : String} {ops : List (List Char)} {bytes : List Byte}
    (h : encodeLine isd t (.instr m ops) = .ok bytes) :
    ∃ e v, lookupByMnemonic isd m = some e ∧ parseOperand t m ops = .ok v ∧ bytes = emit e v := by
  simp only [encodeLine] at h
  split at h
  · cases h
  · next e he =>
    split at h
    · next v hv => exact ⟨e, v, he, hv, (Except.ok.inj h).symm⟩
    · cases h

theorem pass2_cons {isd : Isd} {l : Line} {lines : List Line} {bytes : List Byte}
    (h : pass2 isd t (l :: lines) = .ok bytes) :
    ∃ first more, encodeLine isd t l = .ok first ∧ pass2 isd t lines = .ok more ∧ bytes = first ++ more := by
  rw [pass2] at h
  split at h
  · cases h
  · next first hfirst =>
    split at h
    · cases h
    · next more hmore => exact ⟨first, more, hfirst, hmore, (Except.ok.inj h).symm⟩

variable {p : Params}

/-- What the second pass emits for an instruction line: the canonical entry of its mnemonic with a fitting operand. -/
theorem encodeLine_canonical (wf : p.wf) (noRelative : ∀ e ∈ isdEntries p.isd, e.mode ≠ .relative) {m : String}
    {ops : List (List Char)} {bytes : List Byte} (h : encodeLine p.isd t (.instr m ops) = .ok bytes) :
    ∃ e v, lookupByMnemonic p.isd m = some e ∧ parseOperand t m ops = .ok v ∧ bytes = emit e v ∧ fits e.mode v := by
  obtain ⟨e, v, hm, hv, rfl⟩ := encodeLine_instr h
  obtain ⟨he, rfl⟩ := canonical_entry wf hm
  have mode : e.mode ≠ .relative := noRelative e (List.mem_filterMap.2 ⟨e.opcode, mem_allOpcodes _, he⟩)
  exact ⟨e, v, hm, hv, rfl, fits_of_parseOperand (meets_of_lookup wf he) mode hv⟩

theorem canonicalProgram_of_pass2 (wf : p.wf) (noRelative : ∀ e ∈ isdEntries p.isd, e.mode ≠ .relative)
    {lines : List Line} {bytes : List Byte} (h : pass2 p.isd t lines = .ok bytes) :
    canonicalProgram p.isd t (lines.filterMap Line.instruction) bytes := by
  induction lines generalizing bytes with
  | nil => exact (Except.ok.inj h).symm
  | cons l lines ih =>
    obtain ⟨first, more, hfirst, hmore, rfl⟩ := pass2_cons h
    cases hl : l.instruction with
    | none =>
      obtain rfl := Except.ok.inj ((encodeLine_of_no_instruction hl).symm.trans hfirst)
      rw [List.filterMap_cons_none hl]
      exact ih hmore
    | some pair =>
      obtain ⟨m, ops⟩ := pair
      obtain rfl : l = .instr m ops := by cases l <;> simp_all [Line.instruction]
      obtain ⟨e, v, hm, hv, rfl, hfits⟩ := encodeLine_canonical wf noRelative hfirst
      obtain ⟨he, name⟩ := canonical_entry wf hm
      obtain ⟨i, performs, decodes⟩ := decodeWith_emit (formed_of_wf wf _ e he) he hfits
      rw [List.filterMap_cons_some hl]
      refine ⟨e, v, i, more, hm, name, hv, rfl, decodes more, performs, fun isd => ?_, ih hmore⟩
      rw [isd] at he
      exact (encode_eq_emit he performs).2.trans name

/-! ## The end of the image (R205 to R207) -/

theorem pass1_instr {isd : Isd} {m : String} {ops : List (List Char)} {lines : List Line} {a : Nat} {t t' : Labels}
    (h : pass1 isd (.instr m ops :: lines) a t = .ok t') :
    ∃ e, lookupByMnemonic isd m = some e ∧ a + e.size ≤ 0x10000 ∧ pass1 isd lines (a + e.size) t = .ok t' := by
  rw [pass1] at h
  split at h
  · cases h
  · next e he =>
    split at h
    · cases h
    · next bound => exact ⟨e, he, Nat.le_of_not_lt bound, h⟩

/-- A line without an instruction leaves the address where it is. -/
theorem pass1_of_no_instruction {isd : Isd} {l : Line} {lines : List Line} {a : Nat} {t t' : Labels}
    (hl : l.instruction = none) (h : pass1 isd (l :: lines) a t = .ok t') : ∃ u, pass1 isd lines a u = .ok t' := by
  cases l with
  | instr => cases hl
  | badLabel => cases h
  | empty => exact ⟨t, h⟩
  | label name =>
    rw [pass1] at h
    split at h
    · cases h
    · exact ⟨_, h⟩

/-- Both passes agree on the sizes, so an image that both accept ends where the first pass allows. -/
theorem image_bound (wf : p.wf) (noRelative : ∀ e ∈ isdEntries p.isd, e.mode ≠ .relative) {lines : List Line} {a : Nat}
    {t0 t1 : Labels} {bytes : List Byte} (h1 : pass1 p.isd lines a t0 = .ok t1) (h2 : pass2 p.isd t lines = .ok bytes) :
    bytes ≠ [] → a + bytes.length ≤ 0x10000 := by
  induction lines generalizing a t0 bytes with
  | nil => exact fun nonempty => absurd (Except.ok.inj h2).symm nonempty
  | cons l lines ih =>
    obtain ⟨first, more, hfirst, hmore, rfl⟩ := pass2_cons h2
    cases hl : l.instruction with
    | none =>
      obtain rfl := Except.ok.inj ((encodeLine_of_no_instruction hl).symm.trans hfirst)
      obtain ⟨u, hu⟩ := pass1_of_no_instruction hl h1
      exact ih hu hmore
    | some pair =>
      obtain ⟨m, ops⟩ := pair
      obtain rfl : l = .instr m ops := by cases l <;> simp_all [Line.instruction]
      obtain ⟨e, v, hm, _, rfl, hfits⟩ := encodeLine_canonical wf noRelative hfirst
      obtain ⟨e', hm', bound, hu⟩ := pass1_instr h1
      obtain rfl := Option.some.inj (hm.symm.trans hm')
      obtain ⟨he, _⟩ := canonical_entry wf hm
      obtain ⟨_, size, _⟩ := meets_of_lookup wf he
      intro _
      rw [List.length_append, emit_length size hfits, ← Nat.add_assoc]
      by_cases last : more = []
      · rwa [last]
      · exact ih hu hmore last

theorem assemble_ok {isd : Isd} {source : String} {origin : Addr} {bytes : List Byte} {labels : Labels}
    (h : assemble isd source origin = .ok (bytes, labels)) :
    pass1 isd (sourceLines source) origin.toNat [] = .ok labels ∧
      pass2 isd labels (sourceLines source) = .ok bytes := by
  simp only [assemble] at h
  split at h
  · cases h
  · next t h1 =>
    split at h
    · cases h
    · next more h2 =>
      obtain ⟨rfl, rfl⟩ := Prod.mk.inj (Except.ok.inj h)
      exact ⟨h1, h2⟩

/-- Settles O59: the second pass gives the lines, the first pass the bound. -/
theorem assembledImageIsCanonicalProgram : Obligations.AssembledImageIsCanonicalProgram := by
  intro p source origin bytes labels wf noRelative h
  obtain ⟨h1, h2⟩ := assemble_ok h
  rw [instructionLines_eq]
  exact ⟨canonicalProgram_of_pass2 wf noRelative h2, image_bound wf noRelative h1 h2⟩

/-! ## Immediate literals (R215, R216) -/

/-- The sixteen mnemonics of the immediate family, evaluated over the table of R57. -/
theorem immediate_mnemonics : ∀ m ∈ ["LAI", "LBI", "LCI", "LDI", "LEI", "LHI", "LLI", "LMI", "ADI", "ACI", "SUI", "SBI",
    "NDI", "XRI", "ORI", "CPI"],
    isJumpCall m = false ∧ isImmediate m = true ∧ (lookupByMnemonic Isd.default m).isSome := by
  decide +kernel

theorem immediateOperand_literal {digits : List Char} {n : Nat} (nonempty : digits ≠ [])
    (h : hexValueFrom 0 digits = some n) :
    immediateOperand (['#', '$'] ++ digits) =
      if 0xFF < n then .error .oversizeImmediate else .ok (.imm (BitVec.ofNat 8 n)) := by
  have literal : ((['#', '$'] ++ digits).take 2 == ['#', '$'] && !((['#', '$'] ++ digits).drop 2).isEmpty) = true := by
    simpa using nonempty
  have value : hexValueFrom 0 ((['#', '$'] ++ digits).drop 2) = some n := h
  rw [immediateOperand, if_pos literal, value]

/-- Settles O60: the value decides between the error and the operand, in `immediateOperand_literal`. -/
theorem oversizeImmediateRejected : Obligations.OversizeImmediateRejected := by
  intro t m digits n hm nonempty value
  obtain ⟨shape, ends, entry⟩ := immediate_mnemonics m hm
  obtain ⟨e, he⟩ := Option.isSome_iff_exists.1 entry
  have parsed : parseOperand t m [['#', '$'] ++ digits] = immediateOperand (['#', '$'] ++ digits) := by
    unfold parseOperand
    rw [if_neg (by simp [shape]), if_pos ends]
  rw [immediateOperand_literal nonempty value] at parsed
  refine ⟨fun oversize => ?_, fun fits => ⟨e, he, ?_⟩⟩
  · rw [if_pos oversize] at parsed
    simp only [encodeLine, he, parsed]
  · rw [if_neg (Nat.not_lt.2 fits)] at parsed
    simp only [encodeLine, he, parsed, emit]

end Sys2Proof.Machine
end

section
/-! The remaining instruction families: no-op, moves, store immediate, increments, the other ALU operations and the
rotates (R100 to R163). -/

namespace Sys2Proof.Machine

open Sys2Proof.Claims

variable {s : State}

/-! ## Decoding words of each family (R57) -/

/-- Settles O7. -/
theorem sampleWordsDecode : Obligations.SampleWordsDecode :=
  ⟨rfl, rfl, rfl, rfl, rfl, rfl, rfl, rfl, rfl, rfl, rfl, rfl, rfl, rfl, rfl, rfl⟩

/-! ## No-op, moves and store immediate (R100, R101, R105) -/

/-- Settles O25. -/
theorem nopChangesOnlyPcAndCycles : Obligations.NopChangesOnlyPcAndCycles :=
  ⟨rfl, fun _ => perform_next.2 ⟨_, opNothing_ok.2 rfl, rfl⟩⟩

theorem decodeOpcode_move (dst src : Reg) :
    decodeOpcode (BitVec.ofNat 8 (0xC0 + 8 * dst.number + src.number)) = some (.implied (moveInstr dst src)) := by
  cases dst <;> cases src <;> rfl

/-- The move of A into itself is `NOP`, which has no operation; copying A into A changes nothing either (D9). -/
theorem exec_moveInstr (dst src : Reg) (s : State) : exec (moveInstr dst src) s = perform 1 5 (opMove dst src) s := by
  cases dst <;> cases src <;> rfl

/-- Settles O26. -/
theorem moveCopiesRegister : Obligations.MoveCopiesRegister := by
  intro dst r s
  refine ⟨decode_of_implied (decodeOpcode_move dst r) [], ?_⟩
  rw [exec_moveInstr, ← State.setPc_getReg s (s.pc + 1#16) r]
  exact perform_next.2 ⟨_, opMove_ok.2 rfl, rfl⟩

/-- Settles O30. -/
theorem storeImmediateWritesLiteral : Obligations.StoreImmediateWritesLiteral := by
  intro v s
  refine ⟨decode_of_immediate rfl v [], fun inside => ?_, fun outside => ?_⟩
  · exact perform_next.2 ⟨_, opStoreImm_ok.2 ⟨inside, rfl⟩, rfl⟩
  · exact perform_fault.2 (memWrite_error.2 ⟨outside, rfl⟩)

/-! ## Increments and decrements (R110, R111) -/

theorem incInstr_spec {r : Reg} (h : r ≠ .a) :
    ∃ i, incInstr r = some i ∧ decodeOpcode (BitVec.ofNat 8 (8 * r.number)) = some (.implied i) ∧
      ∀ s, exec i s = perform 1 5 (opIncrement r) s := by
  cases r with
  | a => exact absurd rfl h
  | b | c | d | e | h | l => exact ⟨_, rfl, rfl, fun _ => rfl⟩

theorem decInstr_spec {r : Reg} (h : r ≠ .a) :
    ∃ i, decInstr r = some i ∧ decodeOpcode (BitVec.ofNat 8 (8 * r.number + 1)) = some (.implied i) ∧
      ∀ s, exec i s = perform 1 5 (opDecrement r) s := by
  cases r with
  | a => exact absurd rfl h
  | b | c | d | e | h | l => exact ⟨_, rfl, rfl, fun _ => rfl⟩

/-- Zero and sign of the incremented byte, in terms of the byte. -/
theorem setZSP_increment (f : Flags) (v : Byte) :
    f.setZSP (v + 1#8) = { cf := f.cf, zf := decide (v = 255#8), sf := decide (127 ≤ v.toNat ∧ v.toNat < 255),
                           pf := parityEven (v + 1#8) } := by
  have zero_sign : ∀ v : Byte, (v + 1#8 == 0#8) = decide (v = 255#8) ∧
      (v + 1#8)[7] = decide (127 ≤ v.toNat ∧ v.toNat < 255) := by decide
  obtain ⟨zero, sign⟩ := zero_sign v
  rw [Flags.setZSP, zero, sign]

theorem setZSP_decrement (f : Flags) (v : Byte) :
    f.setZSP (v - 1#8) = { cf := f.cf, zf := decide (v = 1#8), sf := decide (v.toNat = 0 ∨ 128 < v.toNat),
                           pf := parityEven (v - 1#8) } := by
  have zero_sign : ∀ v : Byte, (v - 1#8 == 0#8) = decide (v = 1#8) ∧
      (v - 1#8)[7] = decide (v.toNat = 0 ∨ 128 < v.toNat) := by decide
  obtain ⟨zero, sign⟩ := zero_sign v
  rw [Flags.setZSP, zero, sign]

/-- Settles O31. -/
theorem incrementAndDecrement : Obligations.IncrementAndDecrement := by
  intro r s h
  obtain ⟨i, hi, decodes, exec_i⟩ := incInstr_spec h
  obtain ⟨j, hj, decodes', exec_j⟩ := decInstr_spec h
  refine ⟨⟨i, hi, decode_of_implied decodes [], ?_⟩, j, hj, decode_of_implied decodes' [], ?_⟩
  · rw [exec_i, ← setZSP_increment s.flags (s.getReg r), ← State.setPc_getReg s (s.pc + 1#16) r]
    exact perform_next.2 ⟨_, opIncrement_ok.2 rfl, rfl⟩
  · rw [exec_j, ← setZSP_decrement s.flags (s.getReg r), ← State.setPc_getReg s (s.pc + 1#16) r]
    exact perform_next.2 ⟨_, opDecrement_ok.2 rfl, rfl⟩

/-! ## Subtraction and the other accumulator operations (R120 to R148) -/

/-- The true borrow: the subtrahend with the borrow in exceeds A (R121). -/
theorem sub8_eq (a v : Byte) (bin : Bool) :
    sub8 a v bin = (a - v - BitVec.ofNat 8 bin.toNat, decide (a.toNat < v.toNat + bin.toNat)) := by
  have small : bin.toNat ≤ 1 := Bool.toNat_le bin
  refine Prod.ext (BitVec.eq_of_toNat_eq ?_) (decide_eq_decide.2 (by omega))
  simp only [sub8, BitVec.toNat_ofInt, BitVec.toNat_sub, BitVec.toNat_ofNat]
  omega

theorem boolToNat_eq_ite (b : Bool) : b.toNat = if b then 1 else 0 := by
  cases b <;> rfl

/-- Settles O33. -/
theorem addWithCarryForms : Obligations.AddWithCarryForms :=
  aluForms_of_applyAlu fun s v => by
    rw [applyAlu_eq_withResult (op := .ac) nofun, aluResult, add8_eq, boolToNat_eq_ite]

/-- Settles O34. -/
theorem subtractForms : Obligations.SubtractForms :=
  aluForms_of_applyAlu fun s v => by
    rw [applyAlu_eq_withResult (op := .su) nofun, aluResult, sub8_eq, Bool.toNat_false, BitVec.sub_zero, Nat.add_zero]

/-- Settles O35. -/
theorem subtractWithBorrowForms : Obligations.SubtractWithBorrowForms :=
  aluForms_of_applyAlu fun s v => by
    rw [applyAlu_eq_withResult (op := .sb) nofun, aluResult, sub8_eq, boolToNat_eq_ite]

/-- Settles O36. -/
theorem andForms : Obligations.AndForms :=
  aluForms_of_applyAlu fun _ _ => applyAlu_eq_withResult (op := .nd) nofun _

/-- Settles O37. -/
theorem xorForms : Obligations.XorForms :=
  aluForms_of_applyAlu fun _ _ => applyAlu_eq_withResult (op := .xr) nofun _

/-- Settles O38. -/
theorem orForms : Obligations.OrForms :=
  aluForms_of_applyAlu fun _ _ => applyAlu_eq_withResult (op := .or) nofun _

/-- Settles O39: the difference is zero exactly when both bytes are equal. -/
theorem compareForms : Obligations.CompareForms :=
  aluForms_of_applyAlu fun s v => by
    have zero : (s.regs.a - v = 0#8) ↔ s.regs.a = v := by
      rw [← BitVec.toNat_inj, ← BitVec.toNat_inj, BitVec.toNat_sub, BitVec.toNat_ofNat]
      omega
    simp only [applyAlu, aluResult, sub8_eq, Flags.ofResult_eq, Bool.toNat_false, BitVec.sub_zero, Nat.add_zero, zero]
    rfl

/-- Settles O41: in 16 bits a negative difference wraps above 255, and its low byte is the difference in 8 bits. -/
theorem borrowIsWidenedCarryTest : Obligations.BorrowIsWidenedCarryTest := by
  intro a v bin wide
  have value : wide.toNat = (65536 + a.toNat - v.toNat - bin.toNat) % 65536 := by
    have ha := a.isLt
    have hv := v.isLt
    cases bin <;> simp [wide, BitVec.toNat_sub] <;> omega
  have small : bin.toNat ≤ 1 := Bool.toNat_le bin
  rw [sub8_eq]
  refine Prod.ext (BitVec.eq_of_toNat_eq ?_) (decide_eq_decide.2 ?_)
  · simp only [BitVec.toNat_sub, BitVec.toNat_ofNat, BitVec.toNat_setWidth, value]
    omega
  · rw [value]
    omega

/-! ## Rotates (R160 to R163) -/

/-- The rotates of A within itself, over the 256 bytes. -/
theorem rotate_within : ∀ a : Byte, rotateLeft a = (a.rotateLeft 1, a.getLsbD 7) ∧
    rotateRight a = (a.rotateRight 1, a.getLsbD 0) := by
  decide

/-- The rotates of A through the carry, over the 256 bytes and both carries. -/
theorem rotate_through_carry : ∀ (a : Byte) (cf : Bool),
    rotateLeftCarry a cf = ((a <<< 1) ||| (if cf then 1#8 else 0#8), a.getLsbD 7) ∧
    rotateRightCarry a cf = ((a >>> 1) ||| (if cf then 128#8 else 0#8), a.getLsbD 0) := by
  decide

/-- A rotate in the frame of an instruction: A and the carry, then `pc` and the cost. -/
theorem perform_opRotate (g : Byte → Bool → Byte × Bool) (s : State) :
    perform 1 5 (opRotate g) s = .next
      { s with
        regs := { s.regs with a := (g s.regs.a s.flags.cf).1 }
        flags := { s.flags with cf := (g s.regs.a s.flags.cf).2 }
        pc := s.pc + 1#16, cyc := s.cyc + 5 } :=
  perform_next.2 ⟨_, opRotate_ok.2 rfl, rfl⟩

/-- Settles O42. -/
theorem rotateWithinAccumulator : Obligations.RotateWithinAccumulator := by
  intro s
  obtain ⟨left, right⟩ := rotate_within s.regs.a
  refine ⟨rfl, rfl, (perform_opRotate (fun v _ => rotateLeft v) s).trans ?_,
    (perform_opRotate (fun v _ => rotateRight v) s).trans ?_⟩
  · rw [left]
  · rw [right]

/-- Settles O43. -/
theorem rotateThroughCarry : Obligations.RotateThroughCarry := by
  intro s
  obtain ⟨left, right⟩ := rotate_through_carry s.regs.a s.flags.cf
  refine ⟨rfl, rfl, (perform_opRotate _ s).trans ?_, (perform_opRotate _ s).trans ?_⟩
  · rw [left]
  · rw [right]

/-- The four rotates. -/
def rotates : List Instr := [.rlc, .rrc, .ral, .rar]

/-- What a rotate does to A and the carry; nothing else is a rotate. -/
def turn (x : Byte × Bool) (i : Instr) : Byte × Bool :=
  match i.action with
  | .rotate g => g x.1 x.2
  | _ => x

/-- A state after `n` rotates that leave `x` in A and the carry. -/
def State.turned (s : State) (x : Byte × Bool) (n : Nat) : State :=
  { s with
    regs := { s.regs with a := x.1 }, flags := { s.flags with cf := x.2 }
    pc := s.pc + BitVec.ofNat 16 n, cyc := s.cyc + 5 * n }

theorem exec_rotate {i : Instr} (h : i ∈ rotates) (s : State) :
    exec i s = .next (s.turned (turn (s.regs.a, s.flags.cf) i) 1) := by
  simp only [rotates, List.mem_cons, List.not_mem_nil, or_false] at h
  rcases h with rfl | rfl | rfl | rfl
  · exact perform_opRotate (fun v _ => rotateLeft v) s
  · exact perform_opRotate (fun v _ => rotateRight v) s
  · exact perform_opRotate rotateLeftCarry s
  · exact perform_opRotate rotateRightCarry s

/-- Rotates one after another act on A and the carry alone. -/
theorem executes_rotates {l : List Instr} (h : ∀ i ∈ l, i ∈ rotates) (s : State) :
    executes l s = .next (s.turned (l.foldl turn (s.regs.a, s.flags.cf)) l.length) := by
  induction l generalizing s with
  | nil => simp [executes, State.turned]
  | cons i l ih =>
    obtain ⟨hi, hl⟩ := List.forall_mem_cons.1 h
    simp only [executes, exec_rotate hi, ih hl, List.foldl_cons, List.length_cons]
    simp only [State.turned, Host.Outcome.next.injEq, State.mk.injEq, true_and, and_true]
    refine ⟨?_, by omega⟩
    rw [BitVec.add_assoc, ← BitVec.ofNat_add, Nat.add_comm]

/-- The corner cases of 43_rotate.md on A and the carry, over the 256 bytes and both carries. -/
theorem rotates_corner_cases : ∀ (a : Byte) (cf : Bool),
    [Instr.rlc, .rrc].foldl turn (a, cf) = (a, a.getLsbD 7) ∧ [Instr.rrc, .rlc].foldl turn (a, cf) = (a, a.getLsbD 0) ∧
    [Instr.ral, .rar].foldl turn (a, cf) = (a, cf) ∧ [Instr.rar, .ral].foldl turn (a, cf) = (a, cf) ∧
    (List.replicate 8 Instr.rlc).foldl turn (a, cf) = (a, a.getLsbD 0) ∧
    (List.replicate 8 Instr.rrc).foldl turn (a, cf) = (a, a.getLsbD 7) ∧
    (List.replicate 9 Instr.ral).foldl turn (a, cf) = (a, cf) ∧
    (List.replicate 9 Instr.rar).foldl turn (a, cf) = (a, cf) := by
  decide +kernel

/-- A list of rotates with a known effect on A and the carry. -/
theorem executes_of_turns {l : List Instr} {x : Byte × Bool} (h : ∀ i ∈ l, i ∈ rotates)
    (hx : l.foldl turn (s.regs.a, s.flags.cf) = x) : executes l s = .next (s.turned x l.length) :=
  hx ▸ executes_rotates h s

/-- Settles O44: the effect on A and the carry is in `rotates_corner_cases`, all else is kept by `executes_rotates`. -/
theorem rotatesUndoEachOther : Obligations.RotatesUndoEachOther := by
  intro s
  obtain ⟨lr, rl, lrc, rlc, l8, r8, l9, r9⟩ := rotates_corner_cases s.regs.a s.flags.cf
  exact ⟨executes_of_turns (by decide) lr, executes_of_turns (by decide) rl, executes_of_turns (by decide) lrc,
    executes_of_turns (by decide) rlc, executes_of_turns (by decide) l8, executes_of_turns (by decide) r8,
    executes_of_turns (by decide) l9, executes_of_turns (by decide) r9⟩

end Sys2Proof.Machine
end

section
/-! Conditional jumps, calls, the return, halt and ports (44_control.md, 45_halt_io.md). -/

namespace Sys2Proof.Machine

open Sys2Proof.Claims

variable {s : State}

/-! ## The opcodes, one flag, sense or ignored field each (R56, R57) -/

theorem decodeOpcode_jumpInstr (sense : Bool) (flag : FlagName) :
    decodeOpcode (BitVec.ofNat 8 (0x40 + 32 * sense.toNat + 8 * flag.number)) =
      some (.absolute (jumpInstr sense flag)) := by
  cases sense <;> cases flag <;> rfl

theorem decodeOpcode_callInstr (sense : Bool) (flag : FlagName) :
    decodeOpcode (BitVec.ofNat 8 (0x42 + 32 * sense.toNat + 8 * flag.number)) =
      some (.absolute (callInstr sense flag)) := by
  cases sense <;> cases flag <;> rfl

theorem decodeOpcode_cal (x : BitVec 3) :
    decodeOpcode (BitVec.ofNat 8 (0x46 + 8 * x.toNat)) = some (.absolute (.cal x)) := by
  have fields : BitVec.ofNat 8 (0x46 + 8 * x.toNat) = 0b01#2 ++ x ++ 0b110#3 := by
    revert x
    decide
  rw [fields, decodeOpcode_cal_fields]

/-- The encoding of a return, by the number of its ignored bits. -/
theorem encode_ret (x : BitVec 3) : encode (.ret x) = [BitVec.ofNat 8 (0x07 + 8 * x.toNat)] := by
  revert x
  decide

/-- The byte of a port opcode, by its port number. -/
theorem port_opcode (port : Port) : 0b01#2 ++ port ++ 0b1#1 = BitVec.ofNat 8 (0x41 + 2 * port.toNat) := by
  revert port
  decide

/-! ## Conditional jumps (R174, R175) -/

theorem exec_jumpInstr (sense : Bool) (flag : FlagName) (target : Addr) (s : State) :
    exec (jumpInstr sense flag target) s = perform 3 s.cfg.cycCond (opJumpIf flag sense target) s := by
  cases sense <;> cases flag <;> rfl

/-- Settles O46. -/
theorem conditionalJumps : Obligations.ConditionalJumps := by
  intro sense flag target s
  refine ⟨decode_of_absolute (decodeOpcode_jumpInstr sense flag) target [], ?_⟩
  rw [exec_jumpInstr]
  refine perform_next.2 ⟨_, opJumpIf_ok.2 rfl, ?_⟩
  rw [State.setPc_getFlag]
  split <;> rfl

/-! ## Calls (R171, R176 to R178) -/

/-- The state after a call, with the two bytes of the return address by name. -/
theorem called_eq (target : Addr) (s : State) :
    called target s =
      { s with
        mem := Memory.write (Memory.write s.mem (s.sp - 1#8).toNat (highByte (s.pc + 3#16))) (s.sp - 2#8).toNat
          (lowByte (s.pc + 3#16))
        sp := s.sp - 2#8
        pc := target } := by
  rw [highByte_eq_setWidth, lowByte_eq_setWidth]
  rfl

/-- A call whose slots exist. -/
theorem perform_opCall_next {c : Nat} {target : Addr} (high : (s.sp - 1#8).toNat < s.cfg.memSize)
    (low : (s.sp - 2#8).toNat < s.cfg.memSize) :
    perform 3 c (opCall target) s = .next { called target s with cyc := s.cyc + c } := by
  refine perform_next.2 ⟨_, opCall_ok.2 ⟨_, push16_ok.2 ⟨high, low, rfl⟩, rfl⟩, ?_⟩
  rw [called_eq]
  rfl

theorem perform_opCall_fault_high {c : Nat} {target : Addr} (high : s.cfg.memSize ≤ (s.sp - 1#8).toNat) :
    perform 3 c (opCall target) s = .fault (.memoryBounds (s.sp - 1#8).toNat) :=
  perform_fault.2 (opCall_error (push16_error_of_high high))

theorem perform_opCall_fault_low {c : Nat} {target : Addr} (high : (s.sp - 1#8).toNat < s.cfg.memSize)
    (low : s.cfg.memSize ≤ (s.sp - 2#8).toNat) :
    perform 3 c (opCall target) s = .fault (.memoryBounds (s.sp - 2#8).toNat) :=
  perform_fault.2 (opCall_error (push16_error_of_low high low))

theorem exec_cal (x : BitVec 3) (target : Addr) (s : State) :
    exec (.cal x target) s = perform 3 11 (opCall target) s := rfl

/-- Settles O47. -/
theorem callPushesReturnAddress : Obligations.CallPushesReturnAddress := by
  intro x target s
  rw [exec_cal]
  exact ⟨decode_of_absolute (decodeOpcode_cal x) target [], perform_opCall_next, perform_opCall_fault_high,
    perform_opCall_fault_low⟩

theorem exec_callInstr (sense : Bool) (flag : FlagName) (target : Addr) (s : State) :
    exec (callInstr sense flag target) s = perform 3 s.cfg.cycCond (opCallIf flag sense target) s := by
  cases sense <;> cases flag <;> rfl

/-- A conditional call that is taken is a call. -/
theorem perform_opCallIf_taken {n c : Nat} {flag : FlagName} {sense : Bool} (target : Addr)
    (h : s.getFlag flag = sense) : perform n c (opCallIf flag sense target) s = perform n c (opCall target) s := by
  simp only [perform, opCallIf, State.setPc_getFlag, if_pos h]

theorem perform_opCallIf_not_taken {n c : Nat} {flag : FlagName} {sense : Bool} {target : Addr}
    (h : s.getFlag flag ≠ sense) :
    perform n c (opCallIf flag sense target) s = .next { s with pc := s.pc + BitVec.ofNat 16 n, cyc := s.cyc + c } :=
  perform_next.2 ⟨_, opCallIf_ok.2 (.inr ⟨by rwa [State.setPc_getFlag], rfl⟩), rfl⟩

/-- Settles O48. -/
theorem conditionalCalls : Obligations.ConditionalCalls := by
  intro sense flag target s
  rw [exec_callInstr]
  refine ⟨decode_of_absolute (decodeOpcode_callInstr sense flag) target [], perform_opCallIf_not_taken,
    fun taken high low => ?_, fun taken high => ?_, fun taken high low => ?_⟩
  · exact (perform_opCallIf_taken target taken).trans (perform_opCall_next high low)
  · exact (perform_opCallIf_taken target taken).trans (perform_opCall_fault_high high)
  · exact (perform_opCallIf_taken target taken).trans (perform_opCall_fault_low high low)

/-! ## The return (R172, R180) -/

theorem exec_ret (x : BitVec 3) (s : State) : exec (.ret x) s = perform 1 5 opReturn s := rfl

/-- A return whose slots exist. -/
theorem perform_opReturn_next (low : s.sp.toNat < s.cfg.memSize) (high : (s.sp + 1#8).toNat < s.cfg.memSize) :
    perform 1 5 opReturn s = .next
      { s with
        pc := addrOfBytes (Memory.read s.mem s.sp.toNat) (Memory.read s.mem (s.sp + 1#8).toNat)
        sp := s.sp + 2#8, cyc := s.cyc + 5 } :=
  perform_next.2 ⟨_, opReturn_ok.2 ⟨_, _, pop16_ok.2 ⟨low, high, rfl, rfl⟩, rfl⟩, rfl⟩

theorem addrOfBytes_eq_ofNat (lo hi : Byte) : addrOfBytes lo hi = BitVec.ofNat 16 (hi.toNat * 256 + lo.toNat) := by
  apply BitVec.eq_of_toNat_eq
  rw [addrOfBytes_toNat, BitVec.toNat_ofNat]
  omega

/-- Settles O49. -/
theorem returnPopsPc : Obligations.ReturnPopsPc := by
  intro x s
  rw [exec_ret, ← encode_ret]
  refine ⟨decodeEncodeRoundTrip (.ret x) [] rfl, fun low high => ?_, fun low => ?_, fun low high => ?_⟩
  · rw [← addrOfBytes_eq_ofNat]
    exact perform_opReturn_next low high
  · exact perform_fault.2 (opReturn_error (pop16_error_of_low low))
  · exact perform_fault.2 (opReturn_error (pop16_error_of_high low high))

/-- What a call that completes leaves behind. -/
theorem exec_cal_next {x : BitVec 3} {target : Addr} {t : State} (h : exec (.cal x target) s = .next t) :
    (s.sp - 1#8).toNat < s.cfg.memSize ∧ (s.sp - 2#8).toNat < s.cfg.memSize ∧
      t = { called target s with cyc := s.cyc + 11 } := by
  obtain ⟨u, hu, rfl⟩ := perform_next.1 h
  obtain ⟨w, hw, rfl⟩ := opCall_ok.1 hu
  obtain ⟨high, low, _⟩ := push16_ok.1 hw
  exact ⟨high, low, Host.Outcome.next.inj (h.symm.trans (perform_opCall_next high low))⟩

/-- The bytes that a call stores, read where a return reads them: the low slot was written last, the high slot is
another one. -/
theorem read_called (target : Addr) (s : State) :
    Memory.read (called target s).mem (s.sp - 2#8).toNat = lowByte (s.pc + 3#16) ∧
      Memory.read (called target s).mem (s.sp - 1#8).toNat = highByte (s.pc + 3#16) := by
  have other : (s.sp - 1#8).toNat ≠ (s.sp - 2#8).toNat := by
    rw [BitVec.toNat_sub, BitVec.toNat_sub, BitVec.toNat_ofNat, BitVec.toNat_ofNat]
    omega
  rw [called_eq]
  exact ⟨Memory.read_write_self _ _ _,
    (Memory.read_write_of_ne _ other _).trans (Memory.read_write_self _ _ _)⟩

/-- Settles O50. -/
theorem returnUndoesCall : Obligations.ReturnUndoesCall := by
  intro x y target s t h
  obtain ⟨high, low, rfl⟩ := exec_cal_next h
  obtain ⟨lowRead, highRead⟩ := read_called target s
  have next : s.sp - 2#8 + 1#8 = s.sp - 1#8 := by bv_omega
  have top : s.sp - 2#8 + 2#8 = s.sp := by bv_omega
  refine ⟨_, perform_opReturn_next low ?_, ?_, top, rfl, rfl⟩
  · exact (congrArg BitVec.toNat next).trans_lt high
  · calc addrOfBytes (Memory.read (called target s).mem (s.sp - 2#8).toNat)
          (Memory.read (called target s).mem (s.sp - 2#8 + 1#8).toNat)
        = addrOfBytes (lowByte (s.pc + 3#16)) (highByte (s.pc + 3#16)) := by rw [next, lowRead, highRead]
      _ = s.pc + 3#16 := addrOfBytes_lowByte_highByte _

/-! ## Halt and ports (R185 to R187) -/

/-- Settles O51. -/
theorem haltAdvances : Obligations.HaltAdvances := by
  refine ⟨fun x => ?_, rfl, fun x s => ⟨exec_of_mnemonic_hlt rfl s, exec_of_mnemonic_hlt rfl s⟩⟩
  have byte : 0b0000000#7 ++ x = x.setWidth 8 := by
    revert x
    decide
  rw [← byte]
  exact decode_of_implied (decodeOpcode_hlt x) []

/-- Settles O52. -/
theorem inputReadsPort : Obligations.InputReadsPort := by
  intro port s
  refine ⟨fun input => ?_, fun inside => ?_, fun outside => ?_⟩
  · rw [← port_opcode]
    exact decodeEncodeRoundTrip (.inp port) [] (decide_eq_true input)
  · exact perform_next.2 ⟨_, opInput_ok.2 ⟨inside, rfl⟩, rfl⟩
  · exact perform_fault.2 (opLoadFrom_error.2 ⟨outside, rfl⟩)

/-- The three rows of `OUT` have one shape of encoding and one meaning. -/
theorem output_rows {port : Port} {i : Instr} (h : i ∈ [Instr.out8 port, .out16 port, .out24 port]) :
    encode i = [0b01#2 ++ port ++ 0b1#1] ∧ ∀ s, exec i s = perform 1 6 (opOutput port) s := by
  simp only [List.mem_cons, List.not_mem_nil, or_false] at h
  rcases h with rfl | rfl | rfl <;> exact ⟨rfl, fun _ => rfl⟩

/-- Settles O53. -/
theorem outputWritesPort : Obligations.OutputWritesPort := by
  intro port s i hi
  obtain ⟨bytes, exec_i⟩ := output_rows hi
  rw [exec_i, ← port_opcode, ← bytes]
  refine ⟨fun wf => ?_, fun inside => ?_, fun outside => ?_⟩
  · have roundTrip := decodeEncodeRoundTrip i [] wf
    rwa [List.append_nil] at roundTrip
  · exact perform_next.2 ⟨_, opOutput_ok.2 ⟨inside, rfl⟩, rfl⟩
  · exact perform_fault.2 (memWrite_error.2 ⟨outside, rfl⟩)

end Sys2Proof.Machine
end
